-- ==== Sys2Proof/Word.lean ====
section
/-! DEFINITION. The data the engine works on: bytes, four-byte words and the 4×4 block (R8, R11, R16). -/

namespace Sys2Proof

/-- A byte (R8). -/
abbrev Byte := BitVec 8

/-- Four bytes, `b0` first: a key-schedule word (R16), and also one column of the state, row 0 first. Never a 32-bit
integer (R8). -/
structure Word where
  b0 : Byte
  b1 : Byte
  b2 : Byte
  b3 : Byte
deriving DecidableEq, Repr

/-- The 4×4 state, by its columns: `S[r][c]` is byte `r` of column `c` (R11, R100). -/
structure Block where
  c0 : Word
  c1 : Word
  c2 : Word
  c3 : Word
deriving DecidableEq, Repr

/-- The word of four zero bytes. -/
def Word.zero : Word := ⟨0, 0, 0, 0⟩

/-- The block of sixteen zero bytes. -/
def Block.zero : Block := ⟨Word.zero, Word.zero, Word.zero, Word.zero⟩

/-- `a ⊕ b` of two words, byte by byte (R8). -/
def Word.xor (a b : Word) : Word := ⟨a.b0 ^^^ b.b0, a.b1 ^^^ b.b1, a.b2 ^^^ b.b2, a.b3 ^^^ b.b3⟩

end Sys2Proof
end

