-- ==== Sys2Proof/Syntax.lean ====
section
/-! DEFINITION. The commands of the engine: the sixteen rows of spec/opcode_table.json (R63). -/

namespace Sys2Proof

/-- A command (R63). The suffix `.E` is ENCRYPT, `.D` is DECRYPT (R10). -/
inductive Instr where
  /-- KEXP: expand the key (R86). -/
  | kexp
  /-- LDS: load the state from a block of IBUF (R101). -/
  | lds
  /-- STS: store the state to a block of OBUF (R102). -/
  | sts
  /-- SUB.E: SubBytes (R103). -/
  | subE
  /-- SUB.D: InvSubBytes (R104). -/
  | subD
  /-- SHR.E: ShiftRows (R105). -/
  | shrE
  /-- SHR.D: InvShiftRows (R106). -/
  | shrD
  /-- MIX.E: MixColumns (R107). -/
  | mixE
  /-- MIX.D: InvMixColumns (R108). -/
  | mixD
  /-- ARK r: AddRoundKey with round index `r` (R109). The D bit of the word is ignored and is no operand (R64). -/
  | ark (r : Nat)
  /-- CIPH.E: encrypt the block in S (R120). -/
  | ciphE
  /-- CIPH.D: decrypt the block in S (R121). -/
  | ciphD
  /-- FRM.E: pad the input in place (R141). -/
  | frmE
  /-- FRM.D: validate and strip the padding in place (R144). -/
  | frmD
  /-- RUN.E: encrypt the byte stream in IBUF into OBUF (R161). -/
  | runE
  /-- RUN.D: decrypt the byte stream in IBUF into OBUF and strip the padding (R162). -/
  | runD
deriving DecidableEq, Repr

end Sys2Proof
end

