-- ==== Sys2Proof/WellFormed.lean ====
section
/-! DEFINITION. Which terms of Instr stand for a command word: the one operand field, the 4-bit round index (R62). -/

namespace Sys2Proof

/-- `r` is "an unsigned round index 0..15" (R62); no other command has an operand. -/
def Instr.wellFormed : Instr → Bool
  | .kexp => true
  | .lds => true
  | .sts => true
  | .subE => true
  | .subD => true
  | .shrE => true
  | .shrD => true
  | .mixE => true
  | .mixD => true
  | .ark r => decide (r < 16)
  | .ciphE => true
  | .ciphD => true
  | .frmE => true
  | .frmD => true
  | .runE => true
  | .runD => true

end Sys2Proof
end

