-- ==== Sys2Proof/Decode.lean ====
section
/-! DEFINITION. The decoder, total on all 2^32 values of a CMD write (R66, R67), and the encoder (R61, R63). -/

namespace Sys2Proof

/-- Why a value written to CMD is an illegal command: the conditions (a) to (e) of R66. -/
inductive Illegal where
  | highBitsSet        -- (a) v[31:16] != 0
  | reservedOpcode     -- (b) OP is 0x0 or in 0xB..0xF
  | zFieldNonzero      -- (c) Z != 0
  | noDecryptForm      -- (d) OP is 0x1, 0x2 or 0x3 and D = 1
  | roundFieldNonzero  -- (e) OP != 0x7 and R != 0
deriving DecidableEq, Repr

/-- What a value written to CMD decodes to. -/
inductive Decoded where
  | legal (i : Instr)
  | illegal (why : Illegal)
deriving DecidableEq, Repr

/-- `OP = v[15:12]` (R61). -/
def fieldOp (v : BitVec 32) : Nat := (v.extractLsb' 12 4).toNat

/-- `D = v[11]` (R61): 0 is ENCRYPT, 1 is DECRYPT (R10). -/
def fieldD (v : BitVec 32) : Bool := v.getLsbD 11

/-- `Z = v[10:4]` (R61). -/
def fieldZ (v : BitVec 32) : Nat := (v.extractLsb' 4 7).toNat

/-- `R = v[3:0]` (R61), an unsigned round index (R62). -/
def fieldR (v : BitVec 32) : Nat := (v.extractLsb' 0 4).toNat

/-- The last table of R67: operation code and direction, for a word whose Z and R are zero. -/
def decodeOp : Nat → Bool → Decoded
  | 0x1, false => .legal .kexp
  | 0x2, false => .legal .lds
  | 0x3, false => .legal .sts
  | 0x1, true => .illegal .noDecryptForm
  | 0x2, true => .illegal .noDecryptForm
  | 0x3, true => .illegal .noDecryptForm
  | 0x4, false => .legal .subE
  | 0x4, true => .legal .subD
  | 0x5, false => .legal .shrE
  | 0x5, true => .legal .shrD
  | 0x6, false => .legal .mixE
  | 0x6, true => .legal .mixD
  | 0x8, false => .legal .ciphE
  | 0x8, true => .legal .ciphD
  | 0x9, false => .legal .frmE
  | 0x9, true => .legal .frmD
  | 0xA, false => .legal .runE
  | 0xA, true => .legal .runD
  | _, _ => .illegal .reservedOpcode

/-- The decoder of R67, in the rule's own order. -/
def decode (v : BitVec 32) : Decoded :=
  if v.extractLsb' 16 16 ≠ 0#16 then .illegal .highBitsSet
  else if fieldZ v ≠ 0 then .illegal .zFieldNonzero
  else if fieldOp v = 0x7 then .legal (.ark (fieldR v))
  else if fieldR v ≠ 0 then .illegal .roundFieldNonzero
  else decodeOp (fieldOp v) (fieldD v)

/-- Format C (R61): OP[15:12], D[11], Z[10:4] = 0, R[3:0]. -/
def formatC (op : BitVec 4) (d : BitVec 1) (r : BitVec 4) : BitVec 16 := op ++ d ++ 0#7 ++ r

/-- The command word of each row of R63. ARK has two words; the encoder gives the one with D = 0. -/
def encode : Instr → BitVec 16
  | .kexp => formatC 0x1#4 0 0
  | .lds => formatC 0x2#4 0 0
  | .sts => formatC 0x3#4 0 0
  | .subE => formatC 0x4#4 0 0
  | .subD => formatC 0x4#4 1 0
  | .shrE => formatC 0x5#4 0 0
  | .shrD => formatC 0x5#4 1 0
  | .mixE => formatC 0x6#4 0 0
  | .mixD => formatC 0x6#4 1 0
  | .ark r => formatC 0x7#4 0 (BitVec.ofNat 4 r)
  | .ciphE => formatC 0x8#4 0 0
  | .ciphD => formatC 0x8#4 1 0
  | .frmE => formatC 0x9#4 0 0
  | .frmD => formatC 0x9#4 1 0
  | .runE => formatC 0xA#4 0 0
  | .runD => formatC 0xA#4 1 0

/-- The 32-bit value a host writes to CMD to issue a command word (R21, R60). -/
def cmdValue (word : BitVec 16) : BitVec 32 := word.setWidth 32

/-- The value written to CMD for a table row of `nbits` bits with the bits `w`: every bit above `nbits` is zero. -/
def tableValue (nbits w : Nat) : BitVec 32 := BitVec.ofNat 32 (w % 2 ^ nbits)

/-- What the decoder reads from a word numbered as spec/opcode_table.json numbers it (R63). A command is one 16-bit word,
written to CMD by value, so there is no byte order to lay out (R49, R60). -/
def decodeTableWord (nbits w : Nat) : Option Instr :=
  match decode (tableValue nbits w) with
  | .legal i => some i
  | .illegal _ => none

end Sys2Proof
end

