-- ==== Sys2Proof/Config.lean ====
section
/-! DEFINITION. What an implementation fixes (R7) and the values the spec leaves free (U1).

`Params` is the record of open and decided parameters that the step reads; it is carried in State because step has no
other argument, and no step changes it (log entry 3). NLANES is 1 (log entry 13) and TABLES is Machine/Tables.lean. -/

namespace Sys2Proof

/-- The two values of PAD_ALIGNED (R7, R141, R143): what FRM.E appends to an input that is already whole blocks. -/
inductive PadAligned where
  | full   -- one block of sixteen bytes 0x10
  | none   -- nothing
deriving DecidableEq, Repr

/-- The parameters of R7 that the step reads. -/
structure Params where
  /-- BUFCAP: the capacity in bytes of each of IBUF and OBUF. -/
  bufcap : Nat
  /-- PAD_ALIGNED. -/
  padAligned : PadAligned
deriving DecidableEq, Repr

/-- The admissible values of BUFCAP: "a natural number, a multiple of 16, at least 32" (R7), "below 2^32" (R18). -/
def Params.admissible (p : Params) : Bool :=
  p.bufcap % 16 == 0 && decide (32 ≤ p.bufcap) && decide (p.bufcap < 2 ^ 32)

/-- DESIGN CHOICE (log entry 3): the parameters State.reset carries. BUFCAP is OPEN in the spec; 64 is the capacity its
test vectors use. PAD_ALIGNED = FULL is the spec's decision (D9). No statement about instructions rests on them. -/
def Params.default : Params := ⟨64, .full⟩

/-- The two data buffers (R20). -/
inductive Buffer where
  | ibuf
  | obuf
deriving DecidableEq, Repr

/-- FREE VALUE (log entry 4): the byte at an address of a buffer that nothing has written since the reset counted by
`epoch`: "each byte is a free draw, fixed once drawn" (U1). No body: nothing can be proved of it. -/
opaque Config.unwrittenByte (b : Buffer) (epoch addr : Nat) : Byte

/-- FREE VALUE (log entry 6): byte `k` of the "word" of the schedule at an index of 60 or more, which the file W does not
have. Only a round index above 14 reaches it, and so only a state with NR = 15, which no run reaches. -/
opaque Config.noScheduleByte (i k : Nat) : Byte

/-- OPEN (R7, R44, U11): where the platform maps the register block. No rule depends on it. -/
opaque Config.regBase : Nat

/-- OPEN (R7, R44, U11): where the platform maps IBUF and OBUF. No rule depends on it. -/
opaque Config.bufferBase (b : Buffer) : Nat

end Sys2Proof
end

