-- ==== Sys2Proof/Machine/State.lean ====
section
/-! DEFINITION. The state of the engine and its host (10_state.md), as plain data, the reasons a step can stop, and the
state after reset (R29, R210). -/

namespace Sys2Proof.Machine

/-- The declared key size, the field CFG.KS (R15): KS = 0 is 128 bits, KS = 1 is 256 bits. -/
inductive KeySize where
  | k128
  | k256
deriving DecidableEq, Repr

/-- The causes of a fatal entry (R188). -/
inductive FatalCause where
  | illegalCommand   -- FC_ILLCMD, code 1: any write to CMD
  | busyAccess       -- FC_BUSY, code 2: host access other than a read of STATUS while BUSY = 1
  | noKey            -- FC_NOKEY, code 3: ARK, CIPH.E, CIPH.D with KVALID = 0
  | round            -- FC_ROUND, code 4: ARK with r > NR
  | range            -- FC_RANGE, code 5: LDS, STS, FRM.E, RUN.E, or a host write to ILEN or OLEN
  | length           -- FC_LEN, code 6: FRM.D with OLEN not a multiple of 16
deriving DecidableEq, Repr

/-- A micro-operation of the sequencer (R25): the entries of the lists of R87, R110, R123, R147 and R167. -/
inductive MicroOp where
  | kchk            -- the key checks (R84)
  | kld             -- KVALID <- 0 and W[0..Nk-1] from KEY (R83, R87)
  | kgen (i : Nat)  -- the one word W[i] (R85)
  | kfin            -- NR and KVALID <- 1 (R87)
  | lds
  | sts
  | subE
  | subD
  | shrE
  | shrD
  | mixE
  | mixD
  | ark (r : Nat)
  | frmE
  | frmD
  | preE            -- pre-flight of RUN.E (R161, R163)
  | preD            -- pre-flight of RUN.D (R162, R163)
  | setb (b : Nat)  -- BIDX <- b (R167)
  | fin (n : Nat)   -- BIDX <- n ; OLEN <- ILEN (R167)
deriving DecidableEq, Repr

/-- The three windows a host access can reach (R27, R40): the register block and the two buffers. -/
inductive Window where
  | regs
  | ibuf
  | obuf
deriving DecidableEq, Repr

/-- What the host can do (R69, R199), one entry per act. An offset is a byte offset inside the window (R27, R44). -/
inductive HostOp where
  /-- A command line of R69: write the value to CMD, then read STATUS until BUSY = 0. One step (R25, log entry 1). -/
  | cmd (v : BitVec 32)
  /-- A 32-bit write. At offset 0x000 of the register block it is the bare CMD write, with no polling after it (R21). -/
  | write32 (win : Window) (off : Nat) (v : BitVec 32)
  /-- A byte write (R28 (e)). -/
  | write8 (win : Window) (off : Nat) (v : Byte)
  /-- A 32-bit read. -/
  | read32 (win : Window) (off : Nat)
  /-- A byte read (R28 (e)). -/
  | read8 (win : Window) (off : Nat)
  /-- Read STATUS until BUSY = 0: the engine moves while it is busy. -/
  | poll
  /-- The host lets one step of the engine go by (log entry 8). -/
  | pass
  /-- The reset input is asserted (R210). -/
  | reset
deriving DecidableEq, Repr

/-- Reasons a step faults. No instruction raises one. -/
inductive Fault where
  /-- A host access outside its window: an offset of 0x1000 or more in the register block (R27), or of BUFCAP or more in a
  buffer window (R20): the address does not exist. Raised by the host accesses of Machine/Bus.lean. Safe: the machine stops
  where the spec gives the access no meaning. -/
  | noSuchAddress (win : Window) (off : Nat)
deriving DecidableEq, Repr

/-- Reasons a step is refused. No instruction raises one but `notModelled`, which none is left with. -/
inductive Refusal where
  /-- The instruction has no meaning in this model yet. Raised by exec's refused arms only, and there is none. Safe. -/
  | notModelled (mnemonic : String)
  /-- A 32-bit host access at an offset that is no multiple of 4 (U4, R42). Raised by Machine/Bus.lean. Safe: the spec gives
  the access no meaning. -/
  | misalignedAccess (win : Window) (off : Nat)
  /-- A byte access to one of the 32-bit registers at 0x000 to 0x023 (U4, R28 (e)). Raised by Machine/Bus.lean. Safe: the
  spec gives the access no meaning. -/
  | byteAccessToRegister (off : Nat)
deriving DecidableEq, Repr

/-- A buffer: the bytes written since reset, as (address, byte) pairs with strictly rising addresses. An unlisted address
holds no written byte (log entry 4). -/
abbrev Memory := List Host.Cell

/-- The state of the machine. The comment of each field names the rule that gives it. -/
structure State where
  /-- The parameters of R7. The model's own field (log entry 3). -/
  params : Params
  /-- S, the 4×4 state register file (R11, R12). -/
  S : Block
  /-- KEY[0..31] (R13). -/
  key : Vector Byte 32
  /-- KLEN (R14). -/
  klen : BitVec 6
  /-- CFG.KS (R15). -/
  ks : KeySize
  /-- W[0..59], the key schedule (R16). -/
  w : Vector Word 60
  /-- NR (R17). -/
  nr : BitVec 4
  /-- KVALID (R17). -/
  kvalid : Bool
  /-- ILEN (R18). -/
  ilen : Nat
  /-- OLEN (R18). -/
  olen : Nat
  /-- BIDX (R19). -/
  bidx : BitVec 32
  /-- IBUF (R20). -/
  ibuf : Memory
  /-- OBUF (R20). -/
  obuf : Memory
  /-- STATUS.DONE (R22). -/
  done : Bool
  /-- STATUS.FATAL (R22). -/
  fatal : Bool
  /-- ERR (R23): bit 0 IKS, bit 1 IKB, bit 2 MCT, bit 3 PVF. -/
  err : BitVec 4
  /-- FCAUSE (R24). -/
  fcause : BitVec 4
  /-- SEQ.CUR: the command word being executed, none when the engine is idle (R25). STATUS.BUSY is `cur ≠ none` (R22). -/
  cur : Option (BitVec 16)
  /-- SEQ.MI: the index of the next micro-operation (R25). -/
  mi : Nat
  /-- uops(CUR), fixed when the command is accepted (R25, R220); empty when idle. -/
  plan : List MicroOp
  /-- How many resets there have been, so that each draws new buffer bytes (U1). The model's own field (log entry 5). -/
  epoch : Nat
  /-- What the host does next (R69). The model's own field (log entry 2). -/
  host : List HostOp
  /-- What the last host read answered, none where none has or the engine gave no answer. The model's own (log entry 7). -/
  rdata : Option (BitVec 32)
deriving DecidableEq, Repr

/-- The state after reset (R29) for given parameters, when `epoch` resets came before. -/
def State.resetWith (p : Params) (epoch : Nat) : State where
  params := p
  S := Block.zero
  key := Vector.replicate 32 0#8
  klen := 0
  ks := .k128
  w := Vector.replicate 60 Word.zero
  nr := 0
  kvalid := false
  ilen := 0
  olen := 0
  bidx := 0
  ibuf := []
  obuf := []
  done := false
  fatal := false
  err := 0
  fcause := 0
  cur := none
  mi := 0
  plan := []
  epoch := epoch
  host := []
  rdata := none

/-- The machine right after its first reset (R29, R210). -/
def State.reset : State := State.resetWith Params.default 0

/-- How the work of a command, or of one of its micro-operations, ends, before DONE, ERR and SEQ are written. -/
inductive Effect where
  /-- The work is done; what follows, or `done()`, comes next (R183). -/
  | ok (t : State)
  /-- The padding notice: the command ends with `done({PVF})` (R144, R183). -/
  | notice (t : State)
  /-- `raise Error(bits)` (R184). -/
  | error (t : State) (bits : BitVec 4)
  /-- `fatal(cause)` (R187). -/
  | fatal (t : State) (cause : FatalCause)
deriving DecidableEq, Repr

end Sys2Proof.Machine
end

