-- ==== Sys2Proof/Machine/Flags.lean ====
section
/-! DEFINITION. The flags of the engine: STATUS (R22), ERR (R23, R180) and FCAUSE (R24, R188). No transform sets or reads a
condition flag (R22, R110); these are all there are. -/

namespace Sys2Proof.Machine

/-- ERR bit 0: InvalidKeySize (R23). -/
def errIKS : BitVec 4 := 0b0001#4

/-- ERR bit 1: InvalidKeyBytes (R23). -/
def errIKB : BitVec 4 := 0b0010#4

/-- ERR bit 2: MalformedCiphertext (R23). -/
def errMCT : BitVec 4 := 0b0100#4

/-- ERR bit 3: PaddingValidationFailure (R23). -/
def errPVF : BitVec 4 := 0b1000#4

/-- The bit `b` when the condition holds: the sets of error bits of R84 and R162 are unions of these. -/
def errWhen (c : Bool) (b : BitVec 4) : BitVec 4 := if c then b else 0#4

/-- The code FCAUSE holds for a cause (R188). -/
def FatalCause.code : FatalCause → BitVec 4
  | .illegalCommand => 1
  | .busyAccess => 2
  | .noKey => 3
  | .round => 4
  | .range => 5
  | .length => 6

/-- STATUS.BUSY: a command is in progress, `SEQ.CUR` is not none (R22, R25). -/
def State.busy (s : State) : Bool := s.cur.isSome

/-- The 32-bit value of STATUS (R22): BUSY 0, DONE 1, KVALID 2, FATAL 3, NR 7:4, and 31:8 zero. -/
def State.statusWord (s : State) : BitVec 32 :=
  0#24 ++ s.nr ++ BitVec.ofBool s.fatal ++ BitVec.ofBool s.kvalid ++ BitVec.ofBool s.done ++ BitVec.ofBool s.busy

/-- The 32-bit value of ERR (R23). -/
def State.errWord (s : State) : BitVec 32 := 0#28 ++ s.err

/-- The 32-bit value of FCAUSE (R24). -/
def State.fcauseWord (s : State) : BitVec 32 := 0#28 ++ s.fcause

/-- The 32-bit value of CFG (R15): KS in bit 0, bits 31:1 zero. -/
def State.cfgWord (s : State) : BitVec 32 :=
  match s.ks with
  | .k128 => 0
  | .k256 => 1

/-- The key size a value written to CFG declares (R15): bit 0; bits 31:1 are ignored. -/
def cfgKeySize (v : BitVec 32) : KeySize := if v.getLsbD 0 then .k256 else .k128

/-- The value a write to KLEN stores (R14): bits above bit 5 are ignored. -/
def klenOf (v : BitVec 32) : BitVec 6 := v.setWidth 6

/-- The 32-bit value of KLEN (R14). -/
def State.klenWord (s : State) : BitVec 32 := s.klen.setWidth 32

end Sys2Proof.Machine
end

