-- ==== Sys2Proof/Machine/Ops.lean ====
section
/-! DEFINITION. The named operations on memory, the register files and the sequencer, and how a command ends: done, raise
and fatal (R183, R184, R187), which are this hardware's exceptions. -/

namespace Sys2Proof.Machine

/-! ## Buffers (R20, R9) -/

/-- The byte listed at an address, if one is. -/
def Memory.lookup : Memory → Nat → Option Byte
  | [], _ => none
  | (a, v) :: m, x => if a = x then some v else Memory.lookup m x

/-- Writes one byte, keeping the addresses strictly rising. -/
def Memory.store : Memory → Nat → Byte → Memory
  | [], x, v => [(x, v)]
  | (a, u) :: m, x, v =>
    if x < a then (x, v) :: (a, u) :: m
    else if x = a then (x, v) :: m
    else (a, u) :: Memory.store m x v

/-- Writes bytes at consecutive addresses, lowest first: the MemWrite of R9. -/
def Memory.storeList : Memory → Nat → List Byte → Memory
  | m, _, [] => m
  | m, x, v :: vs => Memory.storeList (m.store x v) (x + 1) vs

/-- Every address listed is above `lo`, and they rise strictly. -/
def Memory.risesAbove : Nat → Memory → Bool
  | _, [] => true
  | lo, (a, _) :: m => decide (lo < a) && Memory.risesAbove a m

/-- The canonical form: strictly rising addresses (log entry 4). -/
def Memory.wf : Memory → Bool
  | [] => true
  | (a, _) :: m => Memory.risesAbove a m

/-- Every address listed is below the bound. -/
def Memory.below (n : Nat) (m : Memory) : Bool := m.all fun cell => decide (cell.1 < n)

/-- The bytes of a buffer written since reset. -/
def State.bufferMemory (s : State) : Buffer → Memory
  | .ibuf => s.ibuf
  | .obuf => s.obuf

/-- What reading byte `a` of a buffer gives: the byte last written, or the free draw of U1 where nothing has been. -/
def State.readBuffer (s : State) (b : Buffer) (a : Nat) : Byte :=
  ((s.bufferMemory b).lookup a).getD (Config.unwrittenByte b s.epoch a)

/-- The MemRead of R9: `n` bytes from address `a`, lowest address first. -/
def State.memRead (s : State) (b : Buffer) (a n : Nat) : List Byte := (List.range n).map fun k => s.readBuffer b (a + k)

/-- The MemWrite of R9. -/
def State.memWrite (s : State) (b : Buffer) (a : Nat) (vs : List Byte) : State :=
  match b with
  | .ibuf => { s with ibuf := s.ibuf.storeList a vs }
  | .obuf => { s with obuf := s.obuf.storeList a vs }

/-! ## Bytes of a word and of the state (R8, R11) -/

/-- Byte `k` of a word. -/
def wordByte (w : Word) : Fin 4 → Byte
  | 0 => w.b0
  | 1 => w.b1
  | 2 => w.b2
  | 3 => w.b3

/-- The word whose byte `k` is `f k`. -/
def wordOf (f : Fin 4 → Byte) : Word := ⟨f 0, f 1, f 2, f 3⟩

/-- Column `c` of the state. -/
def blockColumn (b : Block) : Fin 4 → Word
  | 0 => b.c0
  | 1 => b.c1
  | 2 => b.c2
  | 3 => b.c3

/-- `S[r][c]` (R11). -/
def blockByte (b : Block) (r c : Fin 4) : Byte := wordByte (blockColumn b c) r

/-- The state whose byte `S[r][c]` is `f r c`. -/
def blockOf (f : Fin 4 → Fin 4 → Byte) : Block :=
  ⟨wordOf fun r => f r 0, wordOf fun r => f r 1, wordOf fun r => f r 2, wordOf fun r => f r 3⟩

/-- The state whose column `c` is `f` of the old column `c`. -/
def mapColumns (f : Word → Word) (b : Block) : Block := ⟨f b.c0, f b.c1, f b.c2, f b.c3⟩

/-! ## The register files (R13, R16) -/

/-- `KEY[j]` for `j` in 0..31 (R13). Every reader keeps `j` below 32. -/
def State.keyByte (s : State) (j : Nat) : Byte := s.key.getD j 0#8

/-- Writes `KEY[j]` (R13). -/
def State.setKeyByte (s : State) (j : Nat) (v : Byte) : State := { s with key := s.key.setIfInBounds j v }

/-- `W[i]` of a schedule file (R16); the free value of log entry 6 beyond word 59, which does not exist. -/
def scheduleWord (w : Vector Word 60) (i : Nat) : Word :=
  w[i]?.getD (wordOf fun k => Config.noScheduleByte i k.val)

/-- Writes `W[i]` (R16). -/
def setScheduleWord (w : Vector Word 60) (i : Nat) (v : Word) : Vector Word 60 := w.setIfInBounds i v

/-! ## The sequencer, and how a command ends -/

/-- `SEQ <- (none, 0)`: idle (R25). -/
def State.idle (s : State) : State := { s with cur := none, mi := 0, plan := [] }

/-- Acceptance (R185): DONE <- 0, SEQ <- (cmd, 0) with the list fixed (R25). ERR keeps its value. -/
def State.accept (s : State) (word : BitVec 16) (plan : List MicroOp) : State :=
  { s with done := false, cur := some word, mi := 0, plan := plan }

/-- `done()` and `done({PVF})` (R183): ERR <- bits, DONE <- 1, SEQ idle. -/
def State.finish (s : State) (bits : BitVec 4) : State := { s.idle with err := bits, done := true }

/-- `raise Error(bits)` (R184): ERR <- bits, DONE stays 0, SEQ idle. -/
def State.abort (s : State) (bits : BitVec 4) : State := { s.idle with err := bits, done := false }

/-- `fatal(cause)` (R187): FATAL <- 1, FCAUSE <- cause, DONE <- 0, SEQ idle; ERR and all else as they are. -/
def State.enterFatal (s : State) (c : FatalCause) : State :=
  { s.idle with fatal := true, fcause := c.code, done := false }

/-- Goes on with the next part of a command; a notice, an error or a fatal entry drops the rest (R184, R187). -/
def Effect.andThen : Effect → (State → Effect) → Effect
  | .ok t, f => f t
  | .notice t, _ => .notice t
  | .error t bits, _ => .error t bits
  | .fatal t c, _ => .fatal t c

/-- The state the work has reached. -/
def Effect.state : Effect → State
  | .ok t => t
  | .notice t => t
  | .error t _ => t
  | .fatal t _ => t

/-- The state a command leaves when its work has ended this way (R183, R184, R187). -/
def Effect.settle : Effect → State
  | .ok t => t.finish 0
  | .notice t => t.finish errPVF
  | .error t bits => t.abort bits
  | .fatal t c => t.enterFatal c

/-- The outcome of a whole command: always a next state. -/
def complete (e : Effect) : Host.Outcome State Fault Refusal := .next e.settle

end Sys2Proof.Machine
end

