-- ==== Sys2Proof/Machine/Operands.lean ====
section
/-! DEFINITION. What the commands take from the registers: the sizes a key size fixes (R6), the layouts (R41, R83, R100), the
key checks (R84) and the padding arithmetic (R141, R145, R148). -/

namespace Sys2Proof.Machine

/-! ## Sizes (R6) -/

/-- `Nk`: the number of words of the key (R6). -/
def keyWords : KeySize → Nat
  | .k128 => 4
  | .k256 => 8

/-- `Nr`: the number of rounds (R6). -/
def roundsOf : KeySize → BitVec 4
  | .k128 => 10
  | .k256 => 14

/-- `NW = 4*(Nr+1)`: the number of words of the schedule (R6). -/
def scheduleWords (ks : KeySize) : Nat := 4 * ((roundsOf ks).toNat + 1)

/-- `KBYTES = 4*Nk` (R6), the required key length `req` of R84. -/
def keyBytes (ks : KeySize) : Nat := 4 * keyWords ks

/-! ## Layouts (R41) -/

/-- The state made of a block of 16 bytes: `S[r][c] = B[r + 4*c]` (R100). -/
def blockOfBytes (B : Nat → Byte) : Block := blockOf fun r c => B (r.val + 4 * c.val)

/-- The four bytes of a word, byte 0 first. -/
def wordBytes (w : Word) : List Byte := [w.b0, w.b1, w.b2, w.b3]

/-- The block a state stands for: `B[k] = S[k mod 4][k / 4]` for `k` in 0..15 (R100). -/
def blockBytes (b : Block) : List Byte := wordBytes b.c0 ++ wordBytes b.c1 ++ wordBytes b.c2 ++ wordBytes b.c3

/-- The state with byte `k` of the linear view replaced, `k` in 0..15: `S[k mod 4][k / 4] <- v` (R12). -/
def setBlockByte (b : Block) (k : Nat) (v : Byte) : Block :=
  blockOf fun r c => if r.val = k % 4 ∧ c.val = k / 4 then v else blockByte b r c

/-- Byte `k` of the linear view of the state, `k` in 0..15: `S[k mod 4][k / 4]` (R12). -/
def linearByte (b : Block) (k : Nat) : Byte := blockByte b (Fin.ofNat 4 k) (Fin.ofNat 4 (k / 4))

/-- Key word `i`: `[KEY[4i], KEY[4i+1], KEY[4i+2], KEY[4i+3]]` (R83). -/
def State.keyWord (s : State) (i : Nat) : Word := wordOf fun k => s.keyByte (4 * i + k.val)

/-- The host's 32-bit view of four consecutive bytes: little-endian (R41). -/
def packBytes (f : Nat → Byte) : BitVec 32 := f 3 ++ f 2 ++ f 1 ++ f 0

/-- Byte `k` of a 32-bit value in the host's view: bits `8k+7 : 8k` (R41). -/
def unpackByte (v : BitVec 32) (k : Nat) : Byte := v.extractLsb' (8 * k) 8

/-! ## The key checks (R84) -/

/-- The error bits of the key checks: IKS when KLEN differs from the required length, IKB when it is smaller (R84). -/
def State.keyCheck (s : State) : BitVec 4 :=
  errWhen (decide (s.klen.toNat ≠ keyBytes s.ks)) errIKS ||| errWhen (decide (s.klen.toNat < keyBytes s.ks)) errIKB

/-- The ciphertext length check of RUN.D: MCT when ILEN is no multiple of 16 (R162). -/
def State.lengthCheck (s : State) : BitVec 4 := errWhen (decide (s.ilen % 16 ≠ 0)) errMCT

/-! ## Padding (R141, R145, R148) -/

/-- `ceil(L/16)` (R148). -/
def ceilBlocks (len : Nat) : Nat := (len + 15) / 16

/-- The pad count of FRM.E for an input of `len` bytes (R141): `16*ceil(len/16) - len`, or 16 where that is 0 and
PAD_ALIGNED is FULL. -/
def padCount (p : PadAligned) (len : Nat) : Nat :=
  let pad := 16 * ceilBlocks len - len
  match p with
  | .full => if pad = 0 then 16 else pad
  | .none => pad

/-- The length of the padded input: `L + pad` (R141). -/
def State.paddedLength (s : State) : Nat := s.ilen + padCount s.params.padAligned s.ilen

/-- The padded input fits the buffer: not `L + pad > BUFCAP` (R141, R161). -/
def State.paddingFits (s : State) : Bool := decide (s.paddedLength ≤ s.params.bufcap)

/-- The candidate pad count: the last byte of the output (R145). -/
def State.lastByte (s : State) : Nat := (s.readBuffer .obuf (s.olen - 1)).toNat

/-- The validation predicate of R145 on `OBUF[0..OLEN-1]`: `1 <= p <= 16` and the last `p` bytes all equal `p`; false for the
empty string (D11). -/
def State.paddingValid (s : State) : Bool :=
  if s.olen = 0 then false
  else
    let p := s.lastByte
    decide (1 ≤ p ∧ p ≤ 16) && (List.range p).all fun k => (s.readBuffer .obuf (s.olen - 1 - k)).toNat == p

end Sys2Proof.Machine
end

