-- ==== Sys2Proof/Machine/Transforms.lean ====
section
/-! DEFINITION. The round transforms (41_round_transforms.md): LDS, STS, SUB, SHR, MIX, ARK. Each transform is a function of
the whole old block, so every read comes before any write (R12). -/

namespace Sys2Proof.Machine

/-! ## What each transform computes -/

/-- SubBytes (R103): `S[r][c] <- SBOX[T[r][c]]`. -/
def subBytes (T : Block) : Block := blockOf fun r c => sbox (blockByte T r c)

/-- InvSubBytes (R104): `S[r][c] <- SBOX_INV[T[r][c]]`. -/
def invSubBytes (T : Block) : Block := blockOf fun r c => sboxInv (blockByte T r c)

/-- ShiftRows (R105): `S[r][c] <- T[r][(c + r) mod 4]`; the sum of two `Fin 4` is taken mod 4. -/
def shiftRows (T : Block) : Block := blockOf fun r c => blockByte T r (c + r)

/-- InvShiftRows (R106): `S[r][c] <- T[r][(c - r) mod 4]`; the difference of two `Fin 4` is taken mod 4, in 0..3. -/
def invShiftRows (T : Block) : Block := blockOf fun r c => blockByte T r (c - r)

/-- One column of MixColumns (R107). -/
def mixColumn (c : Word) : Word where
  b0 := mul2 c.b0 ^^^ mul3 c.b1 ^^^ c.b2 ^^^ c.b3
  b1 := c.b0 ^^^ mul2 c.b1 ^^^ mul3 c.b2 ^^^ c.b3
  b2 := c.b0 ^^^ c.b1 ^^^ mul2 c.b2 ^^^ mul3 c.b3
  b3 := mul3 c.b0 ^^^ c.b1 ^^^ c.b2 ^^^ mul2 c.b3

/-- One column of InvMixColumns (R108). -/
def invMixColumn (c : Word) : Word where
  b0 := mul14 c.b0 ^^^ mul11 c.b1 ^^^ mul13 c.b2 ^^^ mul9 c.b3
  b1 := mul9 c.b0 ^^^ mul14 c.b1 ^^^ mul11 c.b2 ^^^ mul13 c.b3
  b2 := mul13 c.b0 ^^^ mul9 c.b1 ^^^ mul14 c.b2 ^^^ mul11 c.b3
  b3 := mul11 c.b0 ^^^ mul13 c.b1 ^^^ mul9 c.b2 ^^^ mul14 c.b3

/-- MixColumns (R107). -/
def mixColumns (T : Block) : Block := mapColumns mixColumn T

/-- InvMixColumns (R108). -/
def invMixColumns (T : Block) : Block := mapColumns invMixColumn T

/-- Round key `r`, as the block whose column `col` is `W[4r + col]` (R16, R109). -/
def roundKey (w : Vector Word 60) (r : Nat) : Block :=
  ⟨scheduleWord w (4 * r), scheduleWord w (4 * r + 1), scheduleWord w (4 * r + 2), scheduleWord w (4 * r + 3)⟩

/-- AddRoundKey (R109): `S[row][col] <- T[row][col] ⊕ W[4*r + col][row]`. -/
def addRoundKey (w : Vector Word 60) (r : Nat) (T : Block) : Block :=
  blockOf fun row col => blockByte T row col ^^^ blockByte (roundKey w r) row col

/-! ## The commands -/

/-- The work of LDS (R101). The range is compared on unbounded naturals. -/
def ldsEffect (s : State) : Effect :=
  let a := 16 * s.bidx.toNat
  if a + 16 > s.ilen then .fatal s .range
  else .ok { s with S := blockOfBytes fun k => s.readBuffer .ibuf (a + k) }

/-- The work of STS (R102). -/
def stsEffect (s : State) : Effect :=
  let a := 16 * s.bidx.toNat
  if a + 16 > s.params.bufcap then .fatal s .range
  else .ok (s.memWrite .obuf a (blockBytes s.S))

/-- The work of SUB, SHR and MIX: a pure transform of S (R110). -/
def transformEffect (f : Block → Block) (s : State) : Effect := .ok { s with S := f s.S }

/-- The work of ARK r (R109): FC_NOKEY is tested before FC_ROUND. -/
def arkEffect (r : Nat) (s : State) : Effect :=
  if s.kvalid = false then .fatal s .noKey
  else if r > s.nr.toNat then .fatal s .round
  else .ok { s with S := addRoundKey s.w r s.S }

/-- LDS: load the state from a block of IBUF (R101). -/
def execLds (s : State) : Host.Outcome State Fault Refusal := complete (ldsEffect s)

/-- STS: store the state to a block of OBUF (R102). -/
def execSts (s : State) : Host.Outcome State Fault Refusal := complete (stsEffect s)

/-- SUB.E: SubBytes (R103). -/
def execSubE (s : State) : Host.Outcome State Fault Refusal := complete (transformEffect subBytes s)

/-- SUB.D: InvSubBytes (R104). -/
def execSubD (s : State) : Host.Outcome State Fault Refusal := complete (transformEffect invSubBytes s)

/-- SHR.E: ShiftRows (R105). -/
def execShrE (s : State) : Host.Outcome State Fault Refusal := complete (transformEffect shiftRows s)

/-- SHR.D: InvShiftRows (R106). -/
def execShrD (s : State) : Host.Outcome State Fault Refusal := complete (transformEffect invShiftRows s)

/-- MIX.E: MixColumns (R107). -/
def execMixE (s : State) : Host.Outcome State Fault Refusal := complete (transformEffect mixColumns s)

/-- MIX.D: InvMixColumns (R108). -/
def execMixD (s : State) : Host.Outcome State Fault Refusal := complete (transformEffect invMixColumns s)

/-- ARK r: AddRoundKey with round index `r` (R109). -/
def execArk (r : Nat) (s : State) : Host.Outcome State Fault Refusal := complete (arkEffect r s)

end Sys2Proof.Machine
end

