-- ==== Sys2Proof/Machine/Cipher.lean ====
section
/-! DEFINITION. The block cipher (42_block_cipher.md): CIPH.E and CIPH.D. -/

namespace Sys2Proof.Machine

/-- A middle round of the encryptor: SUB.E, SHR.E, MIX.E, ARK r (R120). -/
def encryptRound (w : Vector Word 60) (r : Nat) (b : Block) : Block :=
  addRoundKey w r (mixColumns (shiftRows (subBytes b)))

/-- A middle round of the decryptor: SHR.D, SUB.D, ARK r, MIX.D (R121). -/
def decryptRound (w : Vector Word 60) (r : Nat) (b : Block) : Block :=
  invMixColumns (addRoundKey w r (invSubBytes (invShiftRows b)))

/-- The middle rounds `1..n` of the encryptor, ascending. -/
def encryptRounds (w : Vector Word 60) : Nat → Block → Block
  | 0, b => b
  | n + 1, b => encryptRound w (n + 1) (encryptRounds w n b)

/-- The middle rounds `n..1` of the decryptor, descending. -/
def decryptRounds (w : Vector Word 60) : Nat → Block → Block
  | 0, b => b
  | n + 1, b => decryptRounds w n (decryptRound w (n + 1) b)

/-- `encryptBlock(state, keySchedule, numRounds)` (R120). -/
def encryptBlock (b : Block) (w : Vector Word 60) (nr : Nat) : Block :=
  addRoundKey w nr (shiftRows (subBytes (encryptRounds w (nr - 1) (addRoundKey w 0 b))))

/-- `decryptBlock(state, keySchedule, numRounds)` (R121). -/
def decryptBlock (b : Block) (w : Vector Word 60) (nr : Nat) : Block :=
  addRoundKey w 0 (invSubBytes (invShiftRows (decryptRounds w (nr - 1) (addRoundKey w nr b))))

/-- The work of CIPH.E (R120). -/
def ciphEEffect (s : State) : Effect :=
  if s.kvalid = false then .fatal s .noKey else .ok { s with S := encryptBlock s.S s.w s.nr.toNat }

/-- The work of CIPH.D (R121). -/
def ciphDEffect (s : State) : Effect :=
  if s.kvalid = false then .fatal s .noKey else .ok { s with S := decryptBlock s.S s.w s.nr.toNat }

/-- CIPH.E: encrypt the block in S (R120). -/
def execCiphE (s : State) : Host.Outcome State Fault Refusal := complete (ciphEEffect s)

/-- CIPH.D: decrypt the block in S (R121). -/
def execCiphD (s : State) : Host.Outcome State Fault Refusal := complete (ciphDEffect s)

end Sys2Proof.Machine
end

