-- ==== Sys2Proof/Machine/Framer.lean ====
section
/-! DEFINITION. The PKCS#7 framer (43_framer.md): FRM.E and FRM.D, in place (R51). -/

namespace Sys2Proof.Machine

/-- The work of FRM.E (R141): `pad` bytes of value `pad` after the input, and ILEN raised. -/
def frmEEffect (s : State) : Effect :=
  if s.paddingFits = false then .fatal s .range
  else
    let pad := padCount s.params.padAligned s.ilen
    .ok { s.memWrite .ibuf s.ilen (List.replicate pad (BitVec.ofNat 8 pad)) with ilen := s.paddedLength }

/-- The work of FRM.D (R144): OLEN lowered by the pad count, or the notice PVF and nothing stripped. -/
def frmDEffect (s : State) : Effect :=
  if s.olen % 16 ≠ 0 then .fatal s .length
  else if s.paddingValid then .ok { s with olen := s.olen - s.lastByte }
  else .notice s

/-- FRM.E: pad the input in place (R141). -/
def execFrmE (s : State) : Host.Outcome State Fault Refusal := complete (frmEEffect s)

/-- FRM.D: validate and strip the padding in place (R144). -/
def execFrmD (s : State) : Host.Outcome State Fault Refusal := complete (frmDEffect s)

end Sys2Proof.Machine
end

