-- ==== Sys2Proof/Machine/KeySchedule.lean ====
section
/-! DEFINITION. The key schedule engine (40_key_schedule.md): the command KEXP. -/

namespace Sys2Proof.Machine

/-- `RotWord([b0, b1, b2, b3]) = [b1, b2, b3, b0]` (R81). -/
def rotWord (w : Word) : Word := ⟨w.b1, w.b2, w.b3, w.b0⟩

/-- `SubWord`: the forward S-box on each byte, whatever the direction of the cipher (R82). -/
def subWord (w : Word) : Word := ⟨sbox w.b0, sbox w.b1, sbox w.b2, sbox w.b3⟩

/-- `Rcon(j) = [RC[j], 0x00, 0x00, 0x00]`, for both key sizes (R88, C1). -/
def rcon (j : Nat) : Word := ⟨rc j, 0, 0, 0⟩

/-- The `temp` of R85 for word `i`, from word `i-1`. -/
def scheduleTemp (nk i : Nat) (prev : Word) : Word :=
  if i % nk = 0 then (subWord (rotWord prev)).xor (rcon (i / nk))
  else if nk = 8 ∧ i % nk = 4 then subWord prev
  else prev

/-- The word `W[i]` of R85: `W[i-Nk] ⊕ temp`. -/
def scheduleNext (nk i : Nat) (w : Vector Word 60) : Word :=
  (scheduleWord w (i - nk)).xor (scheduleTemp nk i (scheduleWord w (i - 1)))

/-- Generates the words `i, i+1, ..., i+n-1`, in ascending order (R85). -/
def generateWords (nk : Nat) : (n i : Nat) → Vector Word 60 → Vector Word 60
  | 0, _, w => w
  | n + 1, i, w => generateWords nk n (i + 1) (setScheduleWord w i (scheduleNext nk i w))

/-- Writes words `0..n-1`, in ascending order, from the given words (R83). -/
def loadWords (f : Nat → Word) : Nat → Vector Word 60 → Vector Word 60
  | 0, w => w
  | n + 1, w => setScheduleWord (loadWords f n w) n (f n)

/-- `KVALID <- 0` and `W[0..Nk-1]` from KEY (R83, R87: KLD). -/
def State.loadKey (s : State) : State := { s with kvalid := false, w := loadWords s.keyWord (keyWords s.ks) s.w }

/-- `W[i]` by R85 (R87: KGEN(i)), with `Nk` from CFG.KS. -/
def State.generateWord (s : State) (i : Nat) : State :=
  { s with w := setScheduleWord s.w i (scheduleNext (keyWords s.ks) i s.w) }

/-- `NR <- Nr ; KVALID <- 1` (R87: KFIN). -/
def State.latchSchedule (s : State) : State := { s with nr := roundsOf s.ks, kvalid := true }

/-- Key expansion: R86 from "KVALID <- 0" to "KVALID <- 1". -/
def State.expandKey (s : State) : State :=
  let t := s.loadKey
  let u := { t with w := generateWords (keyWords s.ks) (scheduleWords s.ks - keyWords s.ks) (keyWords s.ks) t.w }
  u.latchSchedule

/-- The key checks of R84: on failure KVALID <- 0 and `raise Error(bits)`. -/
def keyCheckEffect (s : State) : Effect :=
  if s.keyCheck = 0 then .ok s else .error { s with kvalid := false } s.keyCheck

/-- The work of KEXP (R86). -/
def kexpEffect (s : State) : Effect := (keyCheckEffect s).andThen fun t => .ok t.expandKey

/-- KEXP: expand the key (R86). -/
def execKexp (s : State) : Host.Outcome State Fault Refusal := complete (kexpEffect s)

end Sys2Proof.Machine
end

