-- ==== Sys2Proof/Machine/Stream.lean ====
section
/-! DEFINITION. The stream encryptor and decryptor (44_stream.md): RUN.E and RUN.D. -/

namespace Sys2Proof.Machine

/-- `BIDX <- b` (R167: SETB(b)). -/
def State.setBidx (s : State) (b : Nat) : State := { s with bidx := BitVec.ofNat 32 b }

/-- `BIDX <- n ; OLEN <- ILEN` (R167: FIN). -/
def State.finishBlocks (s : State) (n : Nat) : State := { s.setBidx n with olen := s.ilen }

/-- The pre-flight of RUN.E (R161, R163): the contract check first, then the key checks. -/
def preflightE (s : State) : Effect := if s.paddingFits = false then .fatal s .range else keyCheckEffect s

/-- The pre-flight of RUN.D (R162, R163): all checks together; KVALID is cleared only when a key check failed. -/
def preflightD (s : State) : Effect :=
  let bits := s.keyCheck ||| s.lengthCheck
  if bits = 0 then .ok s
  else if s.keyCheck = 0 then .error s bits
  else .error { s with kvalid := false } bits

/-- The block loop of R161 and R162 over blocks `b, b+1, ..., b+n-1`: `BIDX <- b ; LDS ; CIPH ; STS`. -/
def runBlocks (cipher : State → Effect) : (n b : Nat) → State → Effect
  | 0, _, s => .ok s
  | n + 1, b, s =>
    (ldsEffect (s.setBidx b)).andThen fun t =>
      (cipher t).andThen fun u => (stsEffect u).andThen fun v => runBlocks cipher n (b + 1) v

/-- The work of RUN.E (R161). -/
def runEEffect (s : State) : Effect :=
  (preflightE s).andThen fun t =>
    (frmEEffect t.expandKey).andThen fun u =>
      (runBlocks ciphEEffect (u.ilen / 16) 0 u).andThen fun v => .ok (v.finishBlocks (u.ilen / 16))

/-- The work of RUN.D (R162). -/
def runDEffect (s : State) : Effect :=
  (preflightD s).andThen fun t =>
    (runBlocks ciphDEffect (t.ilen / 16) 0 t.expandKey).andThen fun v => frmDEffect (v.finishBlocks (t.ilen / 16))

/-- RUN.E: encrypt the byte stream in IBUF into OBUF (R161). -/
def execRunE (s : State) : Host.Outcome State Fault Refusal := complete (runEEffect s)

/-- RUN.D: decrypt the byte stream in IBUF into OBUF and strip the padding (R162). -/
def execRunD (s : State) : Host.Outcome State Fault Refusal := complete (runDEffect s)

end Sys2Proof.Machine
end

