-- ==== Sys2Proof/Machine/Dispatch.lean ====
section
/-! DEFINITION. The meaning of every command, one arm per constructor. -/

namespace Sys2Proof.Machine

/-- What an accepted command does, from its acceptance to its end, in one step (R25, log entries 1 and 11). -/
def exec (i : Instr) (s : State) : Host.Outcome State Fault Refusal :=
  match i with
  | .kexp => Sys2Proof.Machine.execKexp s
  | .lds => Sys2Proof.Machine.execLds s
  | .sts => Sys2Proof.Machine.execSts s
  | .subE => Sys2Proof.Machine.execSubE s
  | .subD => Sys2Proof.Machine.execSubD s
  | .shrE => Sys2Proof.Machine.execShrE s
  | .shrD => Sys2Proof.Machine.execShrD s
  | .mixE => Sys2Proof.Machine.execMixE s
  | .mixD => Sys2Proof.Machine.execMixD s
  | .ark r => Sys2Proof.Machine.execArk r s
  | .ciphE => Sys2Proof.Machine.execCiphE s
  | .ciphD => Sys2Proof.Machine.execCiphD s
  | .frmE => Sys2Proof.Machine.execFrmE s
  | .frmD => Sys2Proof.Machine.execFrmD s
  | .runE => Sys2Proof.Machine.execRunE s
  | .runD => Sys2Proof.Machine.execRunD s

end Sys2Proof.Machine
end

