-- ==== Sys2Proof/Machine/Micro.lean ====
section
/-! DEFINITION. The sequencer (R25): the micro-operation list of every command, what each micro-operation does, and one step of
a busy engine. `exec` gives a command its meaning as a whole; here the same command runs one micro-operation a step. -/

namespace Sys2Proof.Machine

/-! ## The lists -/

/-- `[KLD, KGEN(Nk), ..., KGEN(NW-1), KFIN]` (R87, R167). -/
def keyPhase (ks : KeySize) : List MicroOp :=
  .kld :: (List.range' (keyWords ks) (scheduleWords ks - keyWords ks)).map MicroOp.kgen ++ [.kfin]

/-- The middle rounds `1..n` of `uops(CIPH.E)`, ascending (R123). -/
def encryptMiddle : Nat → List MicroOp
  | 0 => []
  | n + 1 => encryptMiddle n ++ [.subE, .shrE, .mixE, .ark (n + 1)]

/-- The middle rounds `n..1` of `uops(CIPH.D)`, descending (R123). -/
def decryptMiddle : Nat → List MicroOp
  | 0 => []
  | n + 1 => [.shrD, .subD, .ark (n + 1), .mixD] ++ decryptMiddle n

/-- `uops(CIPH.E)` for a round count (R123). -/
def ciphEUops (nr : Nat) : List MicroOp :=
  List.flatten [[.ark 0], encryptMiddle (nr - 1), [.subE, .shrE, .ark nr]]

/-- `uops(CIPH.D)` for a round count (R123). -/
def ciphDUops (nr : Nat) : List MicroOp :=
  List.flatten [[.ark nr], decryptMiddle (nr - 1), [.shrD, .subD, .ark 0]]

/-- `[SETB(b), LDS] ++ uops(CIPH) ++ [STS]` for blocks `b, ..., b+n-1` (R167). -/
def blockUops (cipher : List MicroOp) : (n b : Nat) → List MicroOp
  | 0, _ => []
  | n + 1, b => List.flatten [[.setb b, .lds], cipher, [.sts], blockUops cipher n (b + 1)]

/-- `uops(RUN.E)` for a key size and a block count (R167). -/
def runEUops (ks : KeySize) (n : Nat) : List MicroOp :=
  List.flatten [[.preE], keyPhase ks, [.frmE], blockUops (ciphEUops (roundsOf ks).toNat) n 0, [.fin n]]

/-- `uops(RUN.D)` for a key size and a block count (R167). -/
def runDUops (ks : KeySize) (n : Nat) : List MicroOp :=
  List.flatten [[.preD], keyPhase ks, blockUops (ciphDUops (roundsOf ks).toNat) n 0, [.fin n, .frmD]]

/-- `uops(CUR)`, fixed at acceptance: from NR for CIPH, from CFG.KS and ILEN for KEXP and RUN (R25, R220). -/
def uops (i : Instr) (s : State) : List MicroOp :=
  match i with
  | .kexp => .kchk :: keyPhase s.ks
  | .lds => [.lds]
  | .sts => [.sts]
  | .subE => [.subE]
  | .subD => [.subD]
  | .shrE => [.shrE]
  | .shrD => [.shrD]
  | .mixE => [.mixE]
  | .mixD => [.mixD]
  | .ark r => [.ark r]
  | .ciphE => ciphEUops s.nr.toNat
  | .ciphD => ciphDUops s.nr.toNat
  | .frmE => [.frmE]
  | .frmD => [.frmD]
  | .runE => runEUops s.ks (s.paddedLength / 16)
  | .runD => runDUops s.ks (s.ilen / 16)

/-! ## What each micro-operation does -/

/-- The work of one micro-operation (R87, R110, R147, R167). -/
def microEffect (u : MicroOp) (s : State) : Effect :=
  match u with
  | .kchk => keyCheckEffect s
  | .kld => .ok s.loadKey
  | .kgen i => .ok (s.generateWord i)
  | .kfin => .ok s.latchSchedule
  | .lds => ldsEffect s
  | .sts => stsEffect s
  | .subE => transformEffect subBytes s
  | .subD => transformEffect invSubBytes s
  | .shrE => transformEffect shiftRows s
  | .shrD => transformEffect invShiftRows s
  | .mixE => transformEffect mixColumns s
  | .mixD => transformEffect invMixColumns s
  | .ark r => arkEffect r s
  | .frmE => frmEEffect s
  | .frmD => frmDEffect s
  | .preE => preflightE s
  | .preD => preflightD s
  | .setb b => .ok (s.setBidx b)
  | .fin n => .ok (s.finishBlocks n)

/-- After a micro-operation whose work is done: `MI <- MI + 1`, and `done()` when MI reaches the end of the list (R25). -/
def State.advance (s : State) : State :=
  if s.mi + 1 < s.plan.length then { s with mi := s.mi + 1 } else s.finish 0

/-- One step of a busy engine: it performs `uops(CUR)[MI]` (R25). -/
def engineStep (s : State) : State :=
  match s.plan[s.mi]? with
  | none => s.finish 0
  | some u =>
    match microEffect u s with
    | .ok t => t.advance
    | .notice t => (Effect.notice t).settle
    | .error t bits => (Effect.error t bits).settle
    | .fatal t c => (Effect.fatal t c).settle

/-- `n` steps of the engine, fewer if it comes to rest. -/
def engineSteps : Nat → State → State
  | 0, s => s
  | n + 1, s => if s.busy then engineSteps n (engineStep s) else s

end Sys2Proof.Machine
end

