-- ==== Sys2Proof/Machine/Bus.lean ====
section
/-! DEFINITION. What the host can do to the engine (R27, R28, R199): the register map, the two buffer windows, the CMD port, and
the reset event (R210). -/

namespace Sys2Proof.Machine

/-! ## Which accesses have a meaning (R42, U4) -/

/-- The size of a window in bytes (R27, R20). -/
def State.windowSize (s : State) : Window → Nat
  | .regs => 0x1000
  | .ibuf => s.params.bufcap
  | .obuf => s.params.bufcap

/-- Lets a 32-bit access through when its offset is a multiple of 4 inside its window (R42, log entry 9). -/
def State.access32 (s : State) (win : Window) (off : Nat) (go : State) : Host.Outcome State Fault Refusal :=
  if off % 4 ≠ 0 then .refused (.misalignedAccess win off)
  else if s.windowSize win < off + 4 then .fault (.noSuchAddress win off)
  else .next go

/-- Lets a byte access through when its offset is inside its window and not in one of the registers at 0x000 to 0x023,
which are accessed as whole words only (R28 (e), log entry 9). -/
def State.access8 (s : State) (win : Window) (off : Nat) (go : State) : Host.Outcome State Fault Refusal :=
  if s.windowSize win ≤ off then .fault (.noSuchAddress win off)
  else if win = .regs ∧ off < 0x024 then .refused (.byteAccessToRegister off)
  else .next go

/-! ## Reads -/

/-- A byte of the byte-organised ranges KEY, S and W of the register block; 0 in a reserved location (R27, R28 (b)). -/
def State.readRegByte (s : State) (off : Nat) : Byte :=
  if 0x040 ≤ off ∧ off < 0x060 then s.keyByte (off - 0x040)
  else if 0x060 ≤ off ∧ off < 0x070 then linearByte s.S (off - 0x060)
  else if 0x100 ≤ off ∧ off < 0x1F0 then
    wordByte (scheduleWord s.w ((off - 0x100) / 4)) (Fin.ofNat 4 (off - 0x100))
  else 0

/-- A 32-bit read of the register block (R27): the registers, and four bytes elsewhere, little-endian (R41). CMD reads 0
(R21). -/
def State.readReg (s : State) (off : Nat) : BitVec 32 :=
  if off = 0x000 then 0
  else if off = 0x004 then s.statusWord
  else if off = 0x008 then s.errWord
  else if off = 0x00C then s.fcauseWord
  else if off = 0x010 then s.cfgWord
  else if off = 0x014 then s.klenWord
  else if off = 0x018 then BitVec.ofNat 32 s.ilen
  else if off = 0x01C then BitVec.ofNat 32 s.olen
  else if off = 0x020 then s.bidx
  else packBytes fun k => s.readRegByte (off + k)

/-- A byte read of a window. -/
def State.readByteAt (s : State) (win : Window) (off : Nat) : Byte :=
  match win with
  | .regs => s.readRegByte off
  | .ibuf => s.readBuffer .ibuf off
  | .obuf => s.readBuffer .obuf off

/-- A 32-bit read of a window. -/
def State.readWordAt (s : State) (win : Window) (off : Nat) : BitVec 32 :=
  match win with
  | .regs => s.readReg off
  | .ibuf => packBytes fun k => s.readBuffer .ibuf (off + k)
  | .obuf => packBytes fun k => s.readBuffer .obuf (off + k)

/-- Is it the one access allowed while BUSY, a read of STATUS (R28 (c))? -/
def isStatusRead (win : Window) (off : Nat) : Bool := win == .regs && off == 0x004

/-- A read answers, in any state but one: while BUSY only a read of STATUS may be made (R28). A forbidden read gets no
answer (log entry 7). -/
def State.hostRead (s : State) (allowedBusy : Bool) (answer : BitVec 32) : State :=
  if s.busy && !allowedBusy then { s.enterFatal .busyAccess with rdata := none } else { s with rdata := some answer }

/-! ## Writes -/

/-- A write to ILEN or OLEN above BUFCAP is a contract violation and stores nothing (R18). -/
def State.writeLength (s : State) (v : BitVec 32) (store : State → Nat → State) : State :=
  if v.toNat > s.params.bufcap then s.enterFatal .range else store s v.toNat

/-- A byte write into the register block: KEY and S take it, W and reserved locations ignore it (R27, R28 (b)). -/
def State.writeRegByte (s : State) (off : Nat) (v : Byte) : State :=
  if 0x040 ≤ off ∧ off < 0x060 then s.setKeyByte (off - 0x040) v
  else if 0x060 ≤ off ∧ off < 0x070 then { s with S := setBlockByte s.S (off - 0x060) v }
  else s

/-- A bare write of CMD to an idle engine (R21): a legal word is accepted (R185), an illegal one is FC_ILLCMD (R66). CIPH is
accepted with KVALID = 0 too: its check has no entry of its own in the lists of R123, and it is made in the first
micro-operation, ARK 0 or ARK NR, before S is touched. DESIGN CHOICE (log entry 19): R122 puts it before E_INIT and D_INIT and
names no moment. -/
def State.issue (s : State) (v : BitVec 32) : State :=
  match decode v with
  | .legal i => s.accept (v.setWidth 16) (uops i s)
  | .illegal _ => s.enterFatal .illegalCommand

/-- A 32-bit write into the register block of an idle engine (R27). STATUS, ERR and FCAUSE are read-only: ignored. -/
def State.writeReg (s : State) (off : Nat) (v : BitVec 32) : State :=
  if off = 0x000 then s.issue v
  else if off = 0x010 then { s with ks := cfgKeySize v }
  else if off = 0x014 then { s with klen := klenOf v }
  else if off = 0x018 then s.writeLength v fun t n => { t with ilen := n }
  else if off = 0x01C then s.writeLength v fun t n => { t with olen := n }
  else if off = 0x020 then { s with bidx := v }
  else (((s.writeRegByte off (unpackByte v 0)).writeRegByte (off + 1) (unpackByte v 1)).writeRegByte (off + 2)
    (unpackByte v 2)).writeRegByte (off + 3) (unpackByte v 3)

/-- A byte write of an idle engine. -/
def State.writeByteAt (s : State) (win : Window) (off : Nat) (v : Byte) : State :=
  match win with
  | .regs => s.writeRegByte off v
  | .ibuf => s.memWrite .ibuf off [v]
  | .obuf => s.memWrite .obuf off [v]

/-- A 32-bit write of an idle engine; into a buffer it is four bytes, little-endian (R41). -/
def State.writeWordAt (s : State) (win : Window) (off : Nat) (v : BitVec 32) : State :=
  match win with
  | .regs => s.writeReg off v
  | .ibuf => s.memWrite .ibuf off ((List.range 4).map (unpackByte v))
  | .obuf => s.memWrite .obuf off ((List.range 4).map (unpackByte v))

/-- A write: FC_BUSY while BUSY, ignored while FATAL, else done (R28). -/
def State.hostWrite (s : State) (go : State → State) : State :=
  if s.busy then s.enterFatal .busyAccess else if s.fatal then s else go s

/-! ## The command line and the reset -/

/-- A command line (R69): the word is written to CMD and the command runs to its end, in one step (R25, R46, log entry 1).
While BUSY the write is FC_BUSY (R28 (c)); while FATAL it is ignored, not even decoded (R28 (d)). -/
def State.command (s : State) (v : BitVec 32) : Host.Outcome State Fault Refusal :=
  if s.busy then .next (s.enterFatal .busyAccess)
  else if s.fatal then .next s
  else
    match decode v with
    | .legal i => exec i s
    | .illegal _ => .next (s.enterFatal .illegalCommand)

/-- The reset event (R210): every piece of state takes its reset value, in any state; the buffers are unspecified anew (U1).
The parameters, and the host's own list and last answer, are not the engine's and stay. -/
def State.resetEvent (s : State) : State :=
  { State.resetWith s.params (s.epoch + 1) with host := s.host, rdata := s.rdata }

/-- The engine's turn: one micro-operation while busy, nothing while idle (R25). -/
def State.engineTurn (s : State) : State := if s.busy then engineStep s else s

/-- The host's next act, on the state whose host list no longer holds it (R199). -/
def hostAct (op : HostOp) (s : State) : Host.Outcome State Fault Refusal :=
  match op with
  | .cmd v => s.command v
  | .write32 win off v => s.access32 win off (s.hostWrite fun t => t.writeWordAt win off v)
  | .write8 win off v => s.access8 win off (s.hostWrite fun t => t.writeByteAt win off v)
  | .read32 win off => s.access32 win off (s.hostRead (isStatusRead win off) (s.readWordAt win off))
  | .read8 win off => s.access8 win off (s.hostRead false ((s.readByteAt win off).setWidth 32))
  | .poll => .next (if s.busy then { engineStep s with host := .poll :: s.host } else s.hostRead true s.statusWord)
  | .pass => .next s.engineTurn
  | .reset => .next s.resetEvent

/-- Puts a command line in front of what the host does next. -/
def State.withCommand (s : State) (v : BitVec 32) : State := { s with host := .cmd v :: s.host }

end Sys2Proof.Machine
end

