-- ==== Sys2Proof/Machine/Step.lean ====
section
/-! DEFINITION. One step of host and engine together (R25, R46, R199), and where a command word is put so that the next step
runs it. -/

namespace Sys2Proof.Machine

/-- One step. The host's next act is taken when it has one; when it has none the engine goes on alone. -/
def step (s : State) : Host.Outcome State Fault Refusal :=
  match s.host with
  | [] => .next s.engineTurn
  | op :: rest => hostAct op { s with host := rest }

/-- The state whose next step writes the word to CMD and runs it (log entry 2): there is no instruction memory, a command
reaches the engine by value in the host's write to CMD (R49). Nothing else is changed. -/
def State.withFetchWord (s : State) (nbits w : Nat) : State := s.withCommand (tableValue nbits w)

end Sys2Proof.Machine
end

