-- ==== Sys2Proof/Machine/Asm.lean ====
section
/-! DEFINITION. Programs (R69) and pseudo-instructions (R70), as what the host does. -/

namespace Sys2Proof.Machine

/-- The 32-bit registers a line can name (R27, R69). -/
inductive RegName where
  | cmd | status | err | fcause | cfg | klen | ilen | olen | bidx
deriving DecidableEq, Repr

/-- The byte files a line can name (R69). -/
inductive FileName where
  | key | state | schedule | ibuf | obuf
deriving DecidableEq, Repr

/-- The offset of a register (R27). -/
def RegName.offset : RegName → Nat
  | .cmd => 0x000
  | .status => 0x004
  | .err => 0x008
  | .fcause => 0x00C
  | .cfg => 0x010
  | .klen => 0x014
  | .ilen => 0x018
  | .olen => 0x01C
  | .bidx => 0x020

/-- The window a byte file lies in and the offset of its byte 0 (R27). -/
def FileName.base : FileName → Window × Nat
  | .key => (.regs, 0x040)
  | .state => (.regs, 0x060)
  | .schedule => (.regs, 0x100)
  | .ibuf => (.ibuf, 0)
  | .obuf => (.obuf, 0)

/-- A line of a program (R69). -/
inductive Line where
  | command (i : Instr)
  | wr (reg : RegName) (v : BitVec 32)
  | wrb (file : FileName) (a : Nat) (bytes : List Byte)
  | rd (reg : RegName)
  | rdb (file : FileName) (a n : Nat)
  | reset
deriving DecidableEq, Repr

/-- Consecutive byte writes, the first byte at the lowest offset (R69). Nothing bounds the run: past the end of the file it
goes on at the next offsets of the window, the model's choice (log entry 18). -/
def writeBytes (win : Window) : (off : Nat) → List Byte → List HostOp
  | _, [] => []
  | off, v :: vs => .write8 win off v :: writeBytes win (off + 1) vs

/-- What the host does for a line (R69). The spec does not say what a WRB or RDB line means whose bytes run past the end of its
file, nor WRB of W. DESIGN CHOICE (log entry 18): it is the same byte accesses at the next offsets of the window, each with the
meaning R27 and R28 give that offset: KEY[32] is S[0], S[16] is a reserved location, and beyond a window the access faults. -/
def Line.ops : Line → List HostOp
  | .command i => [.cmd (cmdValue (encode i))]
  | .wr reg v => [.write32 .regs reg.offset v]
  | .wrb file a bytes => writeBytes file.base.1 (file.base.2 + a) bytes
  | .rd reg => [.read32 .regs reg.offset]
  | .rdb file a n => (List.range n).map fun k => .read8 file.base.1 (file.base.2 + a + k)
  | .reset => [.reset]

/-- What the host does for a program: its lines in order (R69). -/
def programOps (p : List Line) : List HostOp := p.flatMap Line.ops

/-- The pseudo-instructions (R70). -/
inductive Pseudo where
  | isub | ishr | imix | encb | decb | pad | unpad | enc | dec
  | roundE (r : Nat)
  | froundE (r : Nat)
  | roundD (r : Nat)
  | froundD
  | setkey128 (bytes : List Byte)
  | setkey256 (bytes : List Byte)
deriving DecidableEq, Repr

/-- The expansion of a pseudo-instruction (R70). -/
def Pseudo.lines : Pseudo → List Line
  | .isub => [.command .subD]
  | .ishr => [.command .shrD]
  | .imix => [.command .mixD]
  | .encb => [.command .ciphE]
  | .decb => [.command .ciphD]
  | .pad => [.command .frmE]
  | .unpad => [.command .frmD]
  | .enc => [.command .runE]
  | .dec => [.command .runD]
  | .roundE r => [.command .subE, .command .shrE, .command .mixE, .command (.ark r)]
  | .froundE r => [.command .subE, .command .shrE, .command (.ark r)]
  | .roundD r => [.command .shrD, .command .subD, .command (.ark r), .command .mixD]
  | .froundD => [.command .shrD, .command .subD, .command (.ark 0)]
  | .setkey128 bytes => [.wr .cfg 0, .wrb .key 0 bytes, .wr .klen 16]
  | .setkey256 bytes => [.wr .cfg 1, .wrb .key 0 bytes, .wr .klen 32]

/-- The block loop of R165: `WR BIDX, b ; LDS ; CIPH ; STS` for blocks `b, ..., b+n-1`. -/
def blockLines (cipher : Instr) : (n b : Nat) → List Line
  | 0, _ => []
  | n + 1, b =>
    .wr .bidx (BitVec.ofNat 32 b) :: .command .lds :: .command cipher :: .command .sts :: blockLines cipher n (b + 1)

/-- The host-driven sequence equivalent to RUN.E over `n` padded blocks (R165). -/
def runELines (n : Nat) : List Line :=
  List.flatten [[.command .kexp, .command .frmE], blockLines .ciphE n 0,
    [.wr .bidx (BitVec.ofNat 32 n), .wr .olen (BitVec.ofNat 32 (16 * n))]]

/-- The host-driven sequence equivalent to RUN.D over `n` blocks (R165). -/
def runDLines (n : Nat) : List Line :=
  List.flatten [[.command .kexp], blockLines .ciphD n 0,
    [.wr .bidx (BitVec.ofNat 32 n), .wr .olen (BitVec.ofNat 32 (16 * n)), .command .frmD]]

/-- Where the platform's bus finds a byte of a window (R44): its base, OPEN, plus the offset. -/
def busAddress : Window → Nat → Nat
  | .regs, off => Config.regBase + off
  | .ibuf, off => Config.bufferBase .ibuf + off
  | .obuf, off => Config.bufferBase .obuf + off

end Sys2Proof.Machine
end

