-- ==== Sys2Proof/Machine/Fsm.lean ====
section
/-! DEFINITION. The encryptor and the decryptor as state machines (R122), and the stream machine (R167). Their state is part of
SEQ and a function of MI and the list's parameters, so it is computed here and not stored (R122). -/

namespace Sys2Proof.Machine

/-- The states of the encryptor (R122). -/
inductive EncState where
  | init | sub | shr | mix | ark
deriving DecidableEq, Repr

/-- The states of the decryptor (R122). -/
inductive DecState where
  | init | shr | sub | ark | mix
deriving DecidableEq, Repr

/-- The action column of the encryptor's table, with the round counter RND (R122). -/
def encAction (q : EncState) (rnd : BitVec 4) : MicroOp :=
  match q with
  | .init => .ark 0
  | .sub => .subE
  | .shr => .shrE
  | .mix => .mixE
  | .ark => .ark rnd.toNat

/-- The next state and RND of the encryptor's table; none is END (R122). -/
def encNext (nr : BitVec 4) (q : EncState) (rnd : BitVec 4) : Option (EncState × BitVec 4) :=
  match q with
  | .init => some (.sub, 1)
  | .sub => some (.shr, rnd)
  | .shr => if rnd < nr then some (.mix, rnd) else some (.ark, rnd)
  | .mix => some (.ark, rnd)
  | .ark => if rnd < nr then some (.sub, rnd + 1) else none

/-- The action column of the decryptor's table (R122). -/
def decAction (nr : BitVec 4) (q : DecState) (rnd : BitVec 4) : MicroOp :=
  match q with
  | .init => .ark nr.toNat
  | .shr => .shrD
  | .sub => .subD
  | .ark => .ark rnd.toNat
  | .mix => .mixD

/-- The next state and RND of the decryptor's table; none is END (R122). -/
def decNext (nr : BitVec 4) (q : DecState) (rnd : BitVec 4) : Option (DecState × BitVec 4) :=
  match q with
  | .init => some (.shr, nr - 1)
  | .shr => some (.sub, rnd)
  | .sub => some (.ark, rnd)
  | .ark => if 0 < rnd then some (.mix, rnd) else none
  | .mix => some (.shr, rnd - 1)

/-- The actions of the encryptor from a state on, at most `fuel` of them. -/
def encTrace (nr : BitVec 4) : (fuel : Nat) → EncState → BitVec 4 → List MicroOp
  | 0, _, _ => []
  | fuel + 1, q, rnd =>
    encAction q rnd :: match encNext nr q rnd with
      | none => []
      | some (q', rnd') => encTrace nr fuel q' rnd'

/-- The actions of the decryptor from a state on, at most `fuel` of them. -/
def decTrace (nr : BitVec 4) : (fuel : Nat) → DecState → BitVec 4 → List MicroOp
  | 0, _, _ => []
  | fuel + 1, q, rnd =>
    decAction nr q rnd :: match decNext nr q rnd with
      | none => []
      | some (q', rnd') => decTrace nr fuel q' rnd'

/-- The two directions of a command (R10). -/
inductive Direction where
  | encrypt   -- D = 0, suffix .E
  | decrypt   -- D = 1, suffix .D
deriving DecidableEq, Repr

/-- The phases of the stream machine (R167). -/
inductive RunPhase where
  | pre | kexp | pad | load | cipher | store | fin | unpad
deriving DecidableEq, Repr

/-- The micro-operations of a phase, for block `b` of `n` (R167). -/
def RunPhase.uops (dir : Direction) (ks : KeySize) (n b : Nat) : RunPhase → List MicroOp
  | .pre => match dir with
    | .encrypt => [.preE]
    | .decrypt => [.preD]
  | .kexp => keyPhase ks
  | .pad => [.frmE]
  | .load => [.setb b, .lds]
  | .cipher => match dir with
    | .encrypt => ciphEUops (roundsOf ks).toNat
    | .decrypt => ciphDUops (roundsOf ks).toNat
  | .store => [.sts]
  | .fin => [.fin n]
  | .unpad => [.frmD]

/-- The next phase and block; none is idle (R167): R_PAD in RUN.E only, R_UNPAD in RUN.D only, and back to R_LOAD while
blocks remain. -/
def RunPhase.next (dir : Direction) (n b : Nat) : RunPhase → Option (RunPhase × Nat)
  | .pre => some (.kexp, 0)
  | .kexp => match dir with
    | .encrypt => some (.pad, 0)
    | .decrypt => if 0 < n then some (.load, 0) else some (.fin, 0)
  | .pad => if 0 < n then some (.load, 0) else some (.fin, 0)
  | .load => some (.cipher, b)
  | .cipher => some (.store, b)
  | .store => if b + 1 < n then some (.load, b + 1) else some (.fin, b + 1)
  | .fin => match dir with
    | .encrypt => none
    | .decrypt => some (.unpad, b)
  | .unpad => none

/-- The micro-operations of the stream machine from a phase on, at most `fuel` phases. -/
def runTrace (dir : Direction) (ks : KeySize) (n : Nat) : (fuel : Nat) → RunPhase → Nat → List MicroOp
  | 0, _, _ => []
  | fuel + 1, ph, b =>
    ph.uops dir ks n b ++ match ph.next dir n b with
      | none => []
      | some (ph', b') => runTrace dir ks n fuel ph' b'

end Sys2Proof.Machine
end

