-- ==== Sys2Proof/Safety.lean ====
section
/-! DEFINITION. What counts as a well-kept state of the engine: the relations between fields that the spec states, in the
terms the statements use. -/

namespace Sys2Proof.Machine

/-- BUFCAP is admissible (R7). -/
def State.paramsOk (s : State) : Bool := s.params.admissible

/-- ILEN and OLEN are in 0..BUFCAP (R18). -/
def State.lengthsOk (s : State) : Bool := decide (s.ilen ≤ s.params.bufcap) && decide (s.olen ≤ s.params.bufcap)

/-- Both buffers are in canonical form and hold addresses 0..BUFCAP-1 only (R20, log entry 4). -/
def State.buffersOk (s : State) : Bool :=
  s.ibuf.wf && s.obuf.wf && s.ibuf.below s.params.bufcap && s.obuf.below s.params.bufcap

/-- NR is 0, 10 or 14, and not 0 when KVALID = 1 (R17, R22). -/
def State.latchOk (s : State) : Bool := (s.nr == 0 || s.nr == 10 || s.nr == 14) && (!s.kvalid || s.nr != 0)

/-- SEQ: an idle engine has no list and MI = 0; a busy one has MI inside its list, DONE = 0 and FATAL = 0 (R25, R185, R187). -/
def State.seqOk (s : State) : Bool :=
  match s.cur with
  | none => s.plan == [] && s.mi == 0
  | some _ => decide (s.mi < s.plan.length) && !s.done && !s.fatal

/-- ERR holds one of the values of R180; with DONE = 1 it is 0 or PVF (R183); FATAL = 1 exactly when FCAUSE is a cause of
R188; DONE and FATAL are not both 1 (R187). -/
def State.flagsOk (s : State) : Bool :=
  [0#4, 1#4, 3#4, 4#4, 5#4, 7#4, 8#4].contains s.err && (!s.done || s.err == 0 || s.err == errPVF) &&
    s.fatal == (s.fcause != 0) && decide (s.fcause.toNat ≤ 6) && !(s.done && s.fatal)

/-- The invariant of the machine. -/
def State.Inv (s : State) : Bool :=
  s.paramsOk && s.lengthsOk && s.buffersOk && s.latchOk && s.seqOk && s.flagsOk

/-- The engine can accept a command: BUSY = 0 and FATAL = 0 (R21). -/
def State.ready (s : State) : Bool := !s.busy && !s.fatal

/-- `Nk` of the schedule that NR describes: "4 if NR = 10 and 8 if NR = 14" (R17). -/
def nkOfRounds (nr : BitVec 4) : Nat := if nr = 10 then 4 else 8

/-- Every word of the schedule from `Nk` on is the function of earlier words that R85 gives (R16). -/
def State.scheduleHolds (s : State) : Prop :=
  ∀ i, nkOfRounds s.nr ≤ i → i < 4 * (s.nr.toNat + 1) → scheduleWord s.w i = scheduleNext (nkOfRounds s.nr) i s.w

/-- The invariant of R16: when KVALID = 1, NR is 10 or 14 and the schedule follows the recurrence. -/
def State.scheduleOk (s : State) : Prop := s.kvalid = true → (s.nr = 10 ∨ s.nr = 14) ∧ s.scheduleHolds

/-- How far a key expansion in progress has come: words `Nk..i-1` are generated when it is `some i`, and it is none outside of
one. A micro-operation takes it on; the answer is none where the entry does not fit (R87): KGEN out of its turn, KFIN early. -/
def scheduleProgress (ks : KeySize) (known : Option Nat) (u : MicroOp) : Option (Option Nat) :=
  match u with
  | .kld => some (some (keyWords ks))
  | .kgen i => if known = some i ∧ i < scheduleWords ks then some (some (i + 1)) else none
  | .kfin => if known = some (scheduleWords ks) then some none else none
  | _ => some known

/-- A list of micro-operations generates words in ascending order, none left out, and latches only a complete schedule (R85,
R87), when it starts from a given progress. -/
def planKeepsSchedule (ks : KeySize) : (known : Option Nat) → List MicroOp → Bool
  | _, [] => true
  | known, u :: plan =>
    match scheduleProgress ks known u with
    | none => false
    | some known' => planKeepsSchedule ks known' plan

/-- The words a key expansion in progress has generated follow R85, and KVALID = 0 until it ends (R83, R87). -/
def State.progressHolds (s : State) (known : Option Nat) : Prop :=
  ∀ i, known = some i → s.kvalid = false ∧
    ∀ j, keyWords s.ks ≤ j → j < i → scheduleWord s.w j = scheduleNext (keyWords s.ks) j s.w

/-- The invariant of the schedule in every state, busy or idle: `scheduleOk`, and the rest of a busy engine's list, from the
micro-operation at MI on, fits the words generated so far. -/
def State.scheduleInv (s : State) : Prop :=
  s.scheduleOk ∧
    (s.busy = true → ∃ known, planKeepsSchedule s.ks known (s.plan.drop s.mi) = true ∧ s.progressHolds known)

/-- `s` after a command that ends with `done()` (R183) and has given S the value `b` and changed nothing else. -/
def State.doneWith (s : State) (b : Block) : State :=
  { s with S := b, err := 0, done := true, cur := none, mi := 0, plan := [] }

/-- Commands one after another, stopping at the first that does not answer a next state. -/
def runCommands : List Instr → State → Host.Outcome State Fault Refusal
  | [], s => .next s
  | i :: is, s =>
    match exec i s with
    | .next t => runCommands is t
    | .fault f => .fault f
    | .refused r => .refused r

/-- The primitive commands of CIPH.E, in the order of R120. -/
def ciphECommands (nr : Nat) : List Instr :=
  List.flatten [[.ark 0], (List.range' 1 (nr - 1)).flatMap fun r => [.subE, .shrE, .mixE, .ark r],
    [.subE, .shrE, .ark nr]]

/-- The primitive commands of CIPH.D, in the order of R121. -/
def ciphDCommands (nr : Nat) : List Instr :=
  List.flatten [[.ark nr], (List.range' 1 (nr - 1)).reverse.flatMap fun r => [.shrD, .subD, .ark r, .mixD],
    [.shrD, .subD, .ark 0]]

/-- The padding `p` of a byte string of length `len`, by R145: `1 <= p <= 16` and the last `p` bytes all equal `p`. -/
def PaddedBy (read : Nat → Byte) (len p : Nat) : Prop :=
  1 ≤ p ∧ p ≤ 16 ∧ p ≤ len ∧ ∀ a, len - p ≤ a → a < len → read a = BitVec.ofNat 8 p

/-- The pad count of R142 and R143 for an input of `len` bytes. -/
def padOf (p : PadAligned) (len : Nat) : Nat :=
  if len % 16 ≠ 0 then 16 - len % 16
  else match p with
    | .full => 16
    | .none => 0

/-- Block `i` of a buffer, as a state (R20, R100). -/
def State.bufferBlock (s : State) (b : Buffer) (i : Nat) : Block := blockOfBytes fun k => s.readBuffer b (16 * i + k)

end Sys2Proof.Machine
end

