-- ==== Sys2Proof/Certificates/Slice0/Obligations.lean ====
section
/-! DEFINITION. The statements for the provers, from the numbered rules of spec/. Each docstring names the rules. -/

open Sys2Proof Sys2Proof.Machine

/-! ## Encoding -/

/-- R61, R63, R67: decoding the word of a well-formed command gives the command back, ARK with every round index. -/
def Obligations.DecodeOfEncodeIsTheCommand : Prop :=
  ∀ i : Instr, i.wellFormed = true → decode (cmdValue (encode i)) = .legal i

/-- R67, R63: the decoder on all 2^32 values of a CMD write. A value decodes to a command exactly where the opcode map says
so, word by word; ARK has the two words of each round index. Every other value is illegal. -/
def Obligations.DecodeAcceptsExactlyTheWords : Prop :=
  ∀ (v : BitVec 32) (i : Instr), decode v = .legal i ↔
    (v = 0x1000 ∧ i = .kexp) ∨ (v = 0x2000 ∧ i = .lds) ∨ (v = 0x3000 ∧ i = .sts) ∨
    (v = 0x4000 ∧ i = .subE) ∨ (v = 0x4800 ∧ i = .subD) ∨ (v = 0x5000 ∧ i = .shrE) ∨ (v = 0x5800 ∧ i = .shrD) ∨
    (v = 0x6000 ∧ i = .mixE) ∨ (v = 0x6800 ∧ i = .mixD) ∨
    (∃ r : BitVec 4, (v = 0x7000 + r.setWidth 32 ∨ v = 0x7800 + r.setWidth 32) ∧ i = .ark r.toNat) ∨
    (v = 0x8000 ∧ i = .ciphE) ∨ (v = 0x8800 ∧ i = .ciphD) ∨ (v = 0x9000 ∧ i = .frmE) ∨ (v = 0x9800 ∧ i = .frmD) ∨
    (v = 0xA000 ∧ i = .runE) ∨ (v = 0xA800 ∧ i = .runD)

/-- R66: a value written to CMD is an illegal command exactly when one of the conditions (a) to (e) holds, and a ready engine
answers it, on a command line and on a bare write alike, with fatal(FC_ILLCMD) and executes nothing. That a command line is one
step, whose polling leaves no answer, is the model's (log entry 1). -/
def Obligations.IllegalWordsAreFatal : Prop :=
  (∀ v : BitVec 32, (∃ why, decode v = .illegal why) ↔
    v.extractLsb' 16 16 ≠ 0#16 ∨ (fieldOp v = 0x0 ∨ 0xB ≤ fieldOp v) ∨ fieldZ v ≠ 0 ∨
      ((fieldOp v = 0x1 ∨ fieldOp v = 0x2 ∨ fieldOp v = 0x3) ∧ fieldD v = true) ∨
        (fieldOp v ≠ 0x7 ∧ fieldR v ≠ 0)) ∧
  (∀ (s : State) (v : BitVec 32) (why : Illegal) (rest : List HostOp), s.ready = true → decode v = .illegal why →
    s.host = .cmd v :: rest ∨ s.host = .write32 .regs 0x000 v :: rest →
      step s = .next { s with host := rest, fatal := true, fcause := 1, done := false, cur := none, mi := 0,
                              plan := [] })

/-- R63: a few words of the opcode map, written out as the table gives them, decode to their rows. -/
def Obligations.SampleWordsDecode : Prop :=
  decode 0x00001000#32 = .legal .kexp ∧ decode 0x00003000#32 = .legal .sts ∧ decode 0x00004800#32 = .legal .subD ∧
    decode 0x0000700A#32 = .legal (.ark 10) ∧ decode 0x00007805#32 = .legal (.ark 5) ∧
      decode 0x00008800#32 = .legal .ciphD ∧ decode 0x0000A000#32 = .legal .runE ∧
        decode 0x00000000#32 = .illegal .reservedOpcode

/-! ## Steps -/

/-- R21, R46: when the host's next act is a command line, the engine is ready and the value decodes, the step is exec of the
command, on the state whose host list no longer holds the line; nothing else is added around exec. That the host's acts stand in
State, and that a command line is one step, is the model's (log entries 1 and 2). -/
def Obligations.StepRunsTheDecodedCommand : Prop :=
  (∀ (s : State) (v : BitVec 32) (i : Instr) (rest : List HostOp), s.ready = true → s.host = .cmd v :: rest →
    decode v = .legal i → step s = exec i { s with host := rest }) ∧
  (∀ (s : State) (w : Nat) (i : Instr), s.ready = true → decodeTableWord 16 w = some i →
    step (s.withFetchWord 16 w) = exec i s)

/-- R185: a bare write of a legal word to CMD of a ready engine is accepted: DONE is cleared, SEQ becomes the command and
index 0, with the list of R25 fixed; ERR and all else keep their values. While BUSY = 1 a host that only lets time pass sees the
engine perform the micro-operation at MI (R25); the act pass, one micro-operation each, is the model's (log entry 8). -/
def Obligations.CmdWriteIsAccepted : Prop :=
  (∀ (s : State) (v : BitVec 32) (i : Instr) (rest : List HostOp), s.ready = true → decode v = .legal i →
    s.host = .write32 .regs 0x000 v :: rest → ∃ t, step s = .next t ∧ t.busy = true ∧ t.err = s.err ∧
      t = { s with host := rest, done := false, cur := some (v.setWidth 16), mi := 0, plan := uops i s }) ∧
  (∀ (s : State) (rest : List HostOp), s.busy = true → s.host = .pass :: rest →
    step s = .next (engineStep { s with host := rest }))

/-- R29: the state after reset. The buffers list nothing, so each byte is the free draw of log entry 4. BUFCAP = 64,
PAD_ALIGNED = FULL, epoch, host and rdata are the model's (log entries 2, 3, 5, 7) and not in this statement. -/
def Obligations.ResetLeavesTheResetValues : Prop :=
  (∀ r c, blockByte State.reset.S r c = 0x00#8) ∧ (∀ j, j < 32 → State.reset.keyByte j = 0x00#8) ∧
    State.reset.klen = 0 ∧ State.reset.ks = .k128 ∧
      (∀ i k, i < 60 → wordByte (scheduleWord State.reset.w i) k = 0x00#8) ∧
        State.reset.nr = 0 ∧ State.reset.kvalid = false ∧ State.reset.ilen = 0 ∧ State.reset.olen = 0 ∧
          State.reset.bidx = 0 ∧ State.reset.statusWord = 0x00000000#32 ∧ State.reset.err = 0 ∧
            State.reset.fcause = 0 ∧ State.reset.cur = none ∧ State.reset.mi = 0 ∧
              State.reset.ibuf = [] ∧ State.reset.obuf = []

/-- R210: the reset event, asserted in any state, busy or fatal too, is one step to the reset values; every buffer byte is
drawn anew, whatever it held. The counter that makes the draw new is the model's (log entry 5); so are the fields host, rdata and
params, which a reset leaves (log entries 2, 3 and 7). -/
def Obligations.ResetEventClearsEverything : Prop :=
  ∀ (s : State) (rest : List HostOp), s.host = .reset :: rest → ∃ t, step s = .next t ∧
    t = { State.reset with params := s.params, epoch := s.epoch + 1, host := rest, rdata := s.rdata } ∧
      ∀ b a, t.readBuffer b a = Config.unwrittenByte b (s.epoch + 1) a

/-- R211: what each command named there does from the state just after reset: KEXP ends with ERR = 3, ARK and CIPH are fatal
with FC_NOKEY, LDS with FC_RANGE, FRM.E pads to sixteen 0x10, FRM.D completes with PVF, STS stores sixteen zero bytes. BUFCAP = 64
and PAD_ALIGNED = FULL here are the model's (log entry 3). -/
def Obligations.CommandsRightAfterReset : Prop :=
  exec .kexp State.reset = .next { State.reset with err := 3 } ∧
    (∀ r, exec (.ark r) State.reset = .next { State.reset with fatal := true, fcause := 3 }) ∧
      exec .ciphE State.reset = .next { State.reset with fatal := true, fcause := 3 } ∧
        exec .ciphD State.reset = .next { State.reset with fatal := true, fcause := 3 } ∧
          exec .lds State.reset = .next { State.reset with fatal := true, fcause := 5 } ∧
            exec .frmE State.reset = .next { State.reset with done := true, ilen := 16,
                                                                ibuf := (List.range 16).map fun a => (a, 0x10#8) } ∧
                exec .frmD State.reset = .next { State.reset with done := true, err := 8 } ∧
                  exec .sts State.reset = .next { State.reset with done := true,
                                                                    obuf := (List.range 16).map fun a => (a, 0x00#8) }

/-- The invariant of the machine and that of the schedule hold at reset (R29). BUFCAP there is the model's (log entry 3). -/
def Obligations.InvariantHoldsAtReset : Prop := State.reset.Inv = true ∧ State.reset.scheduleInv

/-- R16 to R18, R22, R25, R180, R183, R187: every step, whatever the host does and whatever the engine is doing, keeps the
invariant: BUFCAP admissible, ILEN and OLEN at most BUFCAP, both buffers canonical and inside 0..BUFCAP-1, NR one of 0, 10,
14 and set when KVALID is, SEQ idle or inside its list, ERR and FCAUSE legal, FATAL exactly when FCAUSE is a cause.
The canonical form of the buffers is the model's (log entry 4). -/
def Obligations.EveryStepKeepsTheInvariant : Prop :=
  ∀ s t : State, s.Inv = true → step s = .next t → t.Inv = true

/-- R16, R17, R85, R87: no step, of an idle engine or in the middle of a command, breaks "when KVALID = 1, NR is 10 or 14 and
every word from Nk on is the function of earlier words of R85". The invariant says more of a busy engine, so that each step keeps
it: the words an expansion in progress has generated follow R85, KVALID = 0 until it ends, and the rest of the list goes on
from there. An access that is FC_BUSY in the middle of a KEXP or RUN is a step like any other. -/
def Obligations.EveryStepKeepsTheSchedule : Prop :=
  ∀ s t : State, s.scheduleInv → step s = .next t → t.scheduleInv

/-- R187, R28 (d): in the FATAL state no act of the host but reset changes anything except the host's own list and answer:
every write is ignored, writes to CMD too. -/
def Obligations.FatalIgnoresAllButReset : Prop :=
  ∀ (s t : State), s.fatal = true → s.busy = false → (∀ rest, s.host ≠ .reset :: rest) → step s = .next t →
    t = { s with host := t.host, rdata := t.rdata }

/-- R28 (d), R199: in the FATAL state every read that has a meaning answers the current value. Where the answer is kept
(rdata) is the model's (log entry 7). -/
def Obligations.FatalReadsStillAnswer : Prop :=
  ∀ (s : State) (win : Window) (off : Nat) (rest : List HostOp), s.fatal = true → s.busy = false →
    (s.host = .read32 win off :: rest → off % 4 = 0 → off + 4 ≤ s.windowSize win →
      step s = .next { s with host := rest, rdata := some (s.readWordAt win off) }) ∧
    (s.host = .read8 win off :: rest → off < s.windowSize win → (win = .regs → 0x024 ≤ off) →
      step s = .next { s with host := rest, rdata := some ((s.readByteAt win off).setWidth 32) })

/-- R213, R28 (c), R187, R188: while BUSY = 1 any access but a read of STATUS is fatal(FC_BUSY), FCAUSE = 2: the command stops,
what it had written stays written, ERR keeps its value, and nothing of the access is done. That a command line is one such access,
and that a forbidden read leaves rdata empty, is the model's (log entries 1 and 7). -/
def Obligations.BusyAccessIsFatal : Prop :=
  ∀ (s : State) (op : HostOp) (rest : List HostOp), s.busy = true → s.host = op :: rest →
    (∀ v, op = .cmd v →
      step s = .next { s with host := rest, fatal := true, fcause := 2, done := false, cur := none, mi := 0,
                              plan := [] }) ∧
    (∀ win off v, op = .write32 win off v → off % 4 = 0 → off + 4 ≤ s.windowSize win →
      step s = .next { s with host := rest, fatal := true, fcause := 2, done := false, cur := none, mi := 0,
                              plan := [] }) ∧
    (∀ win off v, op = .write8 win off v → off < s.windowSize win → (win = .regs → 0x024 ≤ off) →
      step s = .next { s with host := rest, fatal := true, fcause := 2, done := false, cur := none, mi := 0,
                              plan := [] }) ∧
    (∀ win off, op = .read32 win off → off % 4 = 0 → off + 4 ≤ s.windowSize win → ¬ (win = .regs ∧ off = 0x004) →
      step s = .next { s with host := rest, rdata := none, fatal := true, fcause := 2, done := false, cur := none,
                              mi := 0, plan := [] }) ∧
    (∀ win off, op = .read8 win off → off < s.windowSize win → (win = .regs → 0x024 ≤ off) →
      step s = .next { s with host := rest, rdata := none, fatal := true, fcause := 2, done := false, cur := none,
                              mi := 0, plan := [] }) ∧
    (op = .read32 .regs 0x004 → step s = .next { s with host := rest, rdata := some s.statusWord })

/-- R42, U4 and R27, R20: a misaligned 32-bit access and a byte access to a 32-bit register are refused by name, and an
access outside its window faults by name, in every state. The spec gives these accesses no meaning; stopping is the
model's choice (log entry 9). -/
def Obligations.AccessesWithoutMeaningStop : Prop :=
  ∀ (s : State) (win : Window) (off : Nat) (rest : List HostOp),
    (∀ v, s.host = .write32 win off v :: rest →
      (off % 4 ≠ 0 → step s = .refused (.misalignedAccess win off)) ∧
      (off % 4 = 0 → s.windowSize win < off + 4 → step s = .fault (.noSuchAddress win off))) ∧
    (s.host = .read32 win off :: rest →
      (off % 4 ≠ 0 → step s = .refused (.misalignedAccess win off)) ∧
      (off % 4 = 0 → s.windowSize win < off + 4 → step s = .fault (.noSuchAddress win off))) ∧
    (∀ v, s.host = .write8 win off v :: rest →
      (s.windowSize win ≤ off → step s = .fault (.noSuchAddress win off)) ∧
      (win = .regs → off < 0x024 → step s = .refused (.byteAccessToRegister off))) ∧
    (s.host = .read8 win off :: rest →
      (s.windowSize win ≤ off → step s = .fault (.noSuchAddress win off)) ∧
      (win = .regs → off < 0x024 → step s = .refused (.byteAccessToRegister off)))

/-! ## The host's view of the registers -/

/-- R22, R25: the bits of STATUS. -/
def Obligations.StatusBits : Prop :=
  ∀ s : State, s.statusWord.getLsbD 0 = s.busy ∧ (s.busy = true ↔ s.cur ≠ none) ∧ s.statusWord.getLsbD 1 = s.done ∧
    s.statusWord.getLsbD 2 = s.kvalid ∧ s.statusWord.getLsbD 3 = s.fatal ∧ s.statusWord.extractLsb' 4 4 = s.nr ∧
      s.statusWord.extractLsb' 8 24 = 0#24

/-- R14, R15, R18, R19, R22 to R24, R27: what a 32-bit read of STATUS, ERR, FCAUSE, CFG, KLEN, ILEN, OLEN and BIDX of an idle
engine answers, FATAL too, the bits above a field as zero; and what a host's 32-bit write to CFG, KLEN, ILEN, OLEN and BIDX of a
ready engine stores, and that a value above BUFCAP written to ILEN or OLEN is fatal(FC_RANGE), FCAUSE = 5, with nothing stored.
That the answer is kept in rdata, and that the lengths are naturals, is the model's (log entries 7 and 17). -/
def Obligations.ControlRegisterReadsAndWrites : Prop :=
  (∀ (s : State) (off : Nat) (rest : List HostOp), s.busy = false → s.host = .read32 .regs off :: rest →
    (off = 0x004 → step s = .next { s with host := rest, rdata := some s.statusWord }) ∧
    (off = 0x008 → step s = .next { s with host := rest, rdata := some (s.err.setWidth 32) }) ∧
    (off = 0x00C → step s = .next { s with host := rest, rdata := some (s.fcause.setWidth 32) }) ∧
    (off = 0x010 → step s = .next { s with host := rest, rdata := some (if s.ks = .k256 then 1 else 0) }) ∧
    (off = 0x014 → step s = .next { s with host := rest, rdata := some (s.klen.setWidth 32) }) ∧
    (off = 0x018 → ∃ x : BitVec 32, step s = .next { s with host := rest, rdata := some x } ∧
      x.toNat = s.ilen % 2 ^ 32) ∧
    (off = 0x01C → ∃ x : BitVec 32, step s = .next { s with host := rest, rdata := some x } ∧
      x.toNat = s.olen % 2 ^ 32) ∧
    (off = 0x020 → step s = .next { s with host := rest, rdata := some s.bidx })) ∧
  ∀ (s : State) (v : BitVec 32) (rest : List HostOp), s.ready = true →
    (s.host = .write32 .regs 0x010 v :: rest →
      step s = .next { s with host := rest, ks := if v.getLsbD 0 then .k256 else .k128 }) ∧
    (s.host = .write32 .regs 0x014 v :: rest →
      ∃ t, step s = .next t ∧ t = { s with host := rest, klen := t.klen } ∧ t.klen.toNat = v.toNat % 64) ∧
    (s.host = .write32 .regs 0x018 v :: rest →
      (v.toNat ≤ s.params.bufcap → step s = .next { s with host := rest, ilen := v.toNat }) ∧
      (s.params.bufcap < v.toNat →
        step s = .next { s with host := rest, fatal := true, fcause := 5, done := false, cur := none, mi := 0,
                                plan := [] })) ∧
    (s.host = .write32 .regs 0x01C v :: rest →
      (v.toNat ≤ s.params.bufcap → step s = .next { s with host := rest, olen := v.toNat }) ∧
      (s.params.bufcap < v.toNat →
        step s = .next { s with host := rest, fatal := true, fcause := 5, done := false, cur := none, mi := 0,
                                plan := [] })) ∧
    (s.host = .write32 .regs 0x020 v :: rest → step s = .next { s with host := rest, bidx := v })

/-- R28 (b): a write to STATUS, ERR, FCAUSE, W or a reserved location changes nothing; a read of CMD or of a reserved
location answers 0. That a byte access to a reserved location has this meaning too is the model's choice (log entry 9), and so
is that the answer is kept in rdata, a byte zero-extended (log entry 7). -/
def Obligations.ReadOnlyAndReservedLocations : Prop :=
  (∀ (s : State) (off : Nat) (v : BitVec 32) (rest : List HostOp), s.ready = true → off % 4 = 0 → off < 0x1000 →
    (off = 0x004 ∨ off = 0x008 ∨ off = 0x00C ∨ (0x024 ≤ off ∧ off < 0x040) ∨ 0x070 ≤ off) →
      s.host = .write32 .regs off v :: rest → step s = .next { s with host := rest }) ∧
  (∀ (s : State) (off : Nat) (v : Byte) (rest : List HostOp), s.ready = true → off < 0x1000 →
    ((0x024 ≤ off ∧ off < 0x040) ∨ 0x070 ≤ off) →
      s.host = .write8 .regs off v :: rest → step s = .next { s with host := rest }) ∧
  (∀ (s : State) (off : Nat) (rest : List HostOp), s.ready = true → off % 4 = 0 → off < 0x1000 →
    (off = 0x000 ∨ (0x024 ≤ off ∧ off < 0x040) ∨ (0x070 ≤ off ∧ off < 0x100) ∨ 0x1F0 ≤ off) →
      s.host = .read32 .regs off :: rest → step s = .next { s with host := rest, rdata := some 0 }) ∧
  (∀ (s : State) (off : Nat) (rest : List HostOp), s.ready = true → off < 0x1000 →
    ((0x024 ≤ off ∧ off < 0x040) ∨ (0x070 ≤ off ∧ off < 0x100) ∨ 0x1F0 ≤ off) →
      s.host = .read8 .regs off :: rest → step s = .next { s with host := rest, rdata := some 0 })

/-- R27, R12, R13, R16: a byte write to KEY or S of a ready engine stores that byte and no other, and a byte read of KEY, S
or W answers the byte at its place. That the answer is kept in rdata, zero-extended to 32 bits, is the model's (log entry 7). -/
def Obligations.ByteRangesOfTheRegisterBlock : Prop :=
  ∀ (s : State) (rest : List HostOp), s.ready = true →
    (∀ j v, j < 32 → s.host = .write8 .regs (0x040 + j) v :: rest → ∃ t, step s = .next t ∧
      t = { s with host := rest, key := t.key } ∧ t.keyByte j = v ∧
        ∀ j', j' ≠ j → t.keyByte j' = s.keyByte j') ∧
    (∀ (r c : Fin 4) v, s.host = .write8 .regs (0x060 + (r.val + 4 * c.val)) v :: rest → ∃ t, step s = .next t ∧
      t = { s with host := rest, S := t.S } ∧
        ∀ r' c', blockByte t.S r' c' = if r' = r ∧ c' = c then v else blockByte s.S r' c') ∧
    (∀ j, j < 32 → s.host = .read8 .regs (0x040 + j) :: rest →
      step s = .next { s with host := rest, rdata := some ((s.keyByte j).setWidth 32) }) ∧
    (∀ (r c : Fin 4), s.host = .read8 .regs (0x060 + (r.val + 4 * c.val)) :: rest →
      step s = .next { s with host := rest, rdata := some ((blockByte s.S r c).setWidth 32) }) ∧
    (∀ i (k : Fin 4), i < 60 → s.host = .read8 .regs (0x100 + 4 * i + k.val) :: rest →
      step s = .next { s with host := rest, rdata := some ((wordByte (scheduleWord s.w i) k).setWidth 32) })

/-- R20, R27: a byte write to a buffer window of a ready engine stores that byte and no other of either buffer, and a byte
read answers the byte. That the answer is kept in rdata, zero-extended to 32 bits, is the model's (log entry 7). -/
def Obligations.BufferWindowAccesses : Prop :=
  ∀ (s : State) (a : Nat) (v : Byte) (rest : List HostOp), s.ready = true → a < s.params.bufcap →
    (s.host = .write8 .ibuf a v :: rest → ∃ t, step s = .next t ∧ t = { s with host := rest, ibuf := t.ibuf } ∧
      ∀ x, t.readBuffer .ibuf x = if x = a then v else s.readBuffer .ibuf x) ∧
    (s.host = .write8 .obuf a v :: rest → ∃ t, step s = .next t ∧ t = { s with host := rest, obuf := t.obuf } ∧
      ∀ x, t.readBuffer .obuf x = if x = a then v else s.readBuffer .obuf x) ∧
    (s.host = .read8 .ibuf a :: rest →
      step s = .next { s with host := rest, rdata := some ((s.readBuffer .ibuf a).setWidth 32) }) ∧
    (s.host = .read8 .obuf a :: rest →
      step s = .next { s with host := rest, rdata := some ((s.readBuffer .obuf a).setWidth 32) })

/-- R41, R27, R28 (e): the 32-bit view of four consecutive bytes of KEY, S, W, IBUF or OBUF is little-endian. What a 32-bit
read of an idle engine answers is made of the bytes that byte reads answer, the lowest offset in bits 7:0; a 32-bit write to KEY,
S, IBUF or OBUF of a ready engine stores bits 8k+7:8k at the offset plus k, k = 0..3, and no other byte. That the answer is kept in
rdata, and that the write is four byte writes, is the model's (log entries 7 and 17). -/
def Obligations.WordViewIsLittleEndian : Prop :=
  (∀ (s : State) (win : Window) (off : Nat), off % 4 = 0 →
    (win = .regs → (0x040 ≤ off ∧ off < 0x070) ∨ (0x100 ≤ off ∧ off < 0x1F0)) →
      ∀ k, k < 4 → (s.readWordAt win off).extractLsb' (8 * k) 8 = s.readByteAt win (off + k)) ∧
  (∀ (s : State) (win : Window) (off : Nat) (rest : List HostOp), s.busy = false → off % 4 = 0 →
    off + 4 ≤ s.windowSize win → s.host = .read32 win off :: rest →
      step s = .next { s with host := rest, rdata := some (s.readWordAt win off) }) ∧
  ∀ (s : State) (off : Nat) (v : BitVec 32) (rest : List HostOp), s.ready = true → off % 4 = 0 →
    (0x040 ≤ off → off < 0x060 → s.host = .write32 .regs off v :: rest → ∃ t, step s = .next t ∧
      t = { s with host := rest, key := t.key } ∧
        ∀ j, t.keyByte j = if off ≤ 0x040 + j ∧ 0x040 + j < off + 4 then v.extractLsb' (8 * (0x040 + j - off)) 8
          else s.keyByte j) ∧
    (0x060 ≤ off → off < 0x070 → s.host = .write32 .regs off v :: rest → ∃ t, step s = .next t ∧
      t = { s with host := rest, S := t.S } ∧
        ∀ (r c : Fin 4) (a : Nat), a = 0x060 + (r.val + 4 * c.val) → blockByte t.S r c =
          if off ≤ a ∧ a < off + 4 then v.extractLsb' (8 * (a - off)) 8 else blockByte s.S r c) ∧
    (off + 4 ≤ s.params.bufcap → s.host = .write32 .ibuf off v :: rest → ∃ t, step s = .next t ∧
      t = { s with host := rest, ibuf := t.ibuf } ∧
        ∀ a, t.readBuffer .ibuf a = if off ≤ a ∧ a < off + 4 then v.extractLsb' (8 * (a - off)) 8
          else s.readBuffer .ibuf a) ∧
    (off + 4 ≤ s.params.bufcap → s.host = .write32 .obuf off v :: rest → ∃ t, step s = .next t ∧
      t = { s with host := rest, obuf := t.obuf } ∧
        ∀ a, t.readBuffer .obuf a = if off ≤ a ∧ a < off + 4 then v.extractLsb' (8 * (a - off)) 8
          else s.readBuffer .obuf a)

/-- R69, R70: the pseudo-instructions SETKEY128 and SETKEY256, as the host acts they stand for, leave the key bytes in KEY, the
declared size in CFG.KS and the length in KLEN, and change nothing else. -/
def Obligations.SetkeyLoadsTheKey : Prop :=
  ∀ (s : State) (bytes : List Byte), s.ready = true →
    (bytes.length = 16 → s.host = programOps (Pseudo.lines (.setkey128 bytes)) →
      ∃ t, Host.Core.run Sys2Proof.core s.host.length s = .next t ∧
        t = { s with host := [], key := t.key, ks := .k128, klen := 16 } ∧
          (∀ j, j < 16 → t.keyByte j = bytes.getD j 0) ∧ ∀ j, 16 ≤ j → t.keyByte j = s.keyByte j) ∧
    (bytes.length = 32 → s.host = programOps (Pseudo.lines (.setkey256 bytes)) →
      ∃ t, Host.Core.run Sys2Proof.core s.host.length s = .next t ∧
        t = { s with host := [], key := t.key, ks := .k256, klen := 32 } ∧ ∀ j, j < 32 → t.keyByte j = bytes.getD j 0)

/-- R216: writing KEY, KLEN or CFG changes neither W, NR nor KVALID. -/
def Obligations.KeyWritesLeaveTheScheduleStale : Prop :=
  ∀ (s t : State) (off : Nat) (rest : List HostOp), s.busy = false →
    (off = 0x010 ∨ off = 0x014 ∨ (0x040 ≤ off ∧ off < 0x060)) →
      ((∃ v, s.host = .write32 .regs off v :: rest) ∨ (∃ v, s.host = .write8 .regs off v :: rest)) →
        step s = .next t → t.w = s.w ∧ t.nr = s.nr ∧ t.kvalid = s.kvalid

/-! ## Frames over all commands -/

/-- R13 to R15 and the table of 10_state.md section 1: no command writes KEY, KLEN or CFG.KS; nor do the model's own fields
(log entries 2, 3, 5 and 7) change. -/
def Obligations.NoCommandWritesKeyOrControl : Prop :=
  ∀ (i : Instr) (s t : State), exec i s = .next t →
    t.key = s.key ∧ t.klen = s.klen ∧ t.ks = s.ks ∧ t.params = s.params ∧ t.epoch = s.epoch ∧ t.host = s.host ∧
      t.rdata = s.rdata

/-- The table of 10_state.md section 1 and R40, R43: each piece of state is written only by the commands listed for it; every
byte of a buffer reads as before for a command that does not write the buffer. -/
def Obligations.CommandsWriteOnlyTheirState : Prop :=
  ∀ (i : Instr) (s t : State), exec i s = .next t →
    (i = .kexp ∨ i = .sts ∨ i = .frmE ∨ i = .frmD → t.S = s.S) ∧
    (i ≠ .kexp → i ≠ .runE → i ≠ .runD → t.w = s.w ∧ t.nr = s.nr ∧ t.kvalid = s.kvalid) ∧
    (i ≠ .frmE → i ≠ .runE → t.ilen = s.ilen ∧ ∀ a, t.readBuffer .ibuf a = s.readBuffer .ibuf a) ∧
    (i ≠ .frmD → i ≠ .runE → i ≠ .runD → t.olen = s.olen) ∧
    (i ≠ .sts → i ≠ .runE → i ≠ .runD → ∀ a, t.readBuffer .obuf a = s.readBuffer .obuf a) ∧
    (i ≠ .runE → i ≠ .runD → t.bidx = s.bidx)

/-- R26, R184, R187: every command ends, with the engine idle, in one of the outcomes the host can tell apart: completed
(DONE = 1, ERR 0, or 8 from FRM.D and RUN.D only), aborted (DONE = 0, ERR one of 1, 3, 4, 5, 7), or fatal (DONE = 0, ERR as
it was). -/
def Obligations.EveryCommandEnds : Prop :=
  ∀ (i : Instr) (s : State), ∃ t, exec i s = .next t ∧ t.cur = none ∧ t.mi = 0 ∧ t.plan = [] ∧
    ((t.done = true ∧ (t.err = 0 ∨ t.err = 8 ∧ (i = .frmD ∨ i = .runD)) ∧ t.fatal = s.fatal ∧ t.fcause = s.fcause) ∨
      (t.done = false ∧ (i = .kexp ∨ i = .runE ∨ i = .runD) ∧
        (t.err = 1 ∨ t.err = 3 ∨ t.err = 4 ∨ t.err = 5 ∨ t.err = 7) ∧ t.fatal = s.fatal ∧ t.fcause = s.fcause) ∨
      (t.done = false ∧ t.err = s.err ∧ t.fatal = true ∧ 3 ≤ t.fcause.toNat ∧ t.fcause.toNat ≤ 6))

/-- R184, R182: an abort is precise: ERR takes the bits, KVALID may be cleared, DONE is 0 and the engine idle; all else is as
before the command. R181: it is KEXP, RUN.E or RUN.D. -/
def Obligations.AbortsArePrecise : Prop :=
  ∀ (i : Instr) (s t : State), s.fatal = false → exec i s = .next t → t.done = false → t.fatal = false →
    (i = .kexp ∨ i = .runE ∨ i = .runD) ∧ t.err ≠ 0 ∧ (t.kvalid = s.kvalid ∨ t.kvalid = false) ∧
      t = { s with kvalid := t.kvalid, err := t.err, done := false, cur := none, mi := 0, plan := [] }

/-- R188: what sends a command to the FATAL state, and with which cause; the state frozen is the state before the command. -/
def Obligations.FatalFreezesTheStateBefore : Prop :=
  ∀ (i : Instr) (s t : State), s.Inv = true → s.fatal = false → exec i s = .next t → t.fatal = true →
    t = { s with fatal := true, fcause := t.fcause, done := false, cur := none, mi := 0, plan := [] } ∧
    ((t.fcause = 3 ∧ s.kvalid = false ∧ (i = .ciphE ∨ i = .ciphD ∨ ∃ r, i = .ark r)) ∨
      (t.fcause = 4 ∧ s.kvalid = true ∧ ∃ r, i = .ark r ∧ s.nr.toNat < r) ∨
      (t.fcause = 5 ∧ i = .lds ∧ s.ilen < 16 * s.bidx.toNat + 16) ∨
      (t.fcause = 5 ∧ i = .sts ∧ s.params.bufcap < 16 * s.bidx.toNat + 16) ∨
      (t.fcause = 5 ∧ (i = .frmE ∨ i = .runE) ∧ s.params.bufcap < s.ilen + padOf s.params.padAligned s.ilen) ∨
      (t.fcause = 6 ∧ i = .frmD ∧ s.olen % 16 ≠ 0))

/-! ## KEXP -/

/-- R83, R85, R86: when KLEN is the length CFG.KS declares, KEXP completes: words 0..Nk-1 are the key words, every later word
up to NW is W[i-Nk] ⊕ temp with temp as R85 gives it, other words keep their value, NR and KVALID are latched, and nothing
else changes. -/
def Obligations.KexpExpandsTheKey : Prop :=
  decode 0x1000#32 = .legal .kexp ∧
  ∀ (s : State) (nk nw : Nat), nk = (if s.ks = .k128 then 4 else 8) → nw = (if s.ks = .k128 then 44 else 60) →
    s.klen.toNat = 4 * nk → ∃ t, exec .kexp s = .next t ∧
      t = { s with w := t.w, nr := if s.ks = .k128 then 10 else 14, kvalid := true, err := 0, done := true,
                   cur := none, mi := 0, plan := [] } ∧
      (∀ i, i < nk → ∀ k : Fin 4, wordByte (scheduleWord t.w i) k = s.keyByte (4 * i + k.val)) ∧
      (∀ i, nk ≤ i → i < nw → scheduleWord t.w i = (scheduleWord t.w (i - nk)).xor
        (if i % nk = 0 then (subWord (rotWord (scheduleWord t.w (i - 1)))).xor ⟨rc (i / nk), 0, 0, 0⟩
         else if nk = 8 ∧ i % nk = 4 then subWord (scheduleWord t.w (i - 1))
         else scheduleWord t.w (i - 1))) ∧
      (∀ i, nw ≤ i → i < 60 → scheduleWord t.w i = scheduleWord s.w i)

/-- R84: KLEN against the length CFG.KS declares. A shorter key aborts with IKS and IKB, a longer one with IKS alone: KVALID is
cleared, W and NR and all else keep their values. A key of that length reports nothing. -/
def Obligations.KexpChecksTheKeyLength : Prop :=
  ∀ (s : State) (req : Nat), req = (if s.ks = .k128 then 16 else 32) →
    (s.klen.toNat ≠ req →
      exec .kexp s = .next { s with kvalid := false, err := if s.klen.toNat < req then 3 else 1, done := false,
                                    cur := none, mi := 0, plan := [] }) ∧
    (s.klen.toNat = req → ∃ t, exec .kexp s = .next t ∧ t.err = 0 ∧ t.done = true)

/-- R89: the schedule is a function of the key bytes and the key size alone: two states that agree on those end KEXP with the
same W[0..NW-1], NR and KVALID, whatever else they hold. -/
def Obligations.KexpDependsOnTheKeyOnly : Prop :=
  ∀ s s' t t' : State, s.ks = s'.ks → (∀ j, j < keyBytes s.ks → s.keyByte j = s'.keyByte j) →
    s.klen.toNat = keyBytes s.ks → s'.klen.toNat = keyBytes s.ks → exec .kexp s = .next t → exec .kexp s' = .next t' →
      t.nr = t'.nr ∧ t.kvalid = t'.kvalid ∧
        ∀ i, i < scheduleWords s.ks → scheduleWord t.w i = scheduleWord t'.w i

/-! ## The round transforms -/

/-- R103, R104: SUB.E and SUB.D complete from every state, replace every byte by its table entry, and change nothing else.
The S-box has no fixed point. -/
def Obligations.SubReplacesEveryByte : Prop :=
  decode 0x4000#32 = .legal .subE ∧ decode 0x4800#32 = .legal .subD ∧ (∀ b, sbox b ≠ b) ∧
  ∀ s : State,
    (∃ b, exec .subE s = .next (s.doneWith b) ∧ ∀ r c, blockByte b r c = sbox (blockByte s.S r c)) ∧
    (∃ b, exec .subD s = .next (s.doneWith b) ∧ ∀ r c, blockByte b r c = sboxInv (blockByte s.S r c))

/-- R105, R106: SHR.E and SHR.D complete from every state, rotate row r left, right by r, and change nothing else. -/
def Obligations.ShrRotatesTheRows : Prop :=
  decode 0x5000#32 = .legal .shrE ∧ decode 0x5800#32 = .legal .shrD ∧
  ∀ s : State,
    (∃ b, exec .shrE s = .next (s.doneWith b) ∧ ∀ r c : Fin 4, ∀ c' : Fin 4, c'.val = (c.val + r.val) % 4 →
      blockByte b r c = blockByte s.S r c') ∧
    (∃ b, exec .shrD s = .next (s.doneWith b) ∧ ∀ r c : Fin 4, ∀ c' : Fin 4, c'.val = (c.val + 4 - r.val) % 4 →
      blockByte b r c = blockByte s.S r c')

/-- R107, R108: MIX.E and MIX.D complete from every state, replace every column by its linear combination, and change nothing
else. Row indexes are taken mod 4. -/
def Obligations.MixCombinesTheColumns : Prop :=
  decode 0x6000#32 = .legal .mixE ∧ decode 0x6800#32 = .legal .mixD ∧
  ∀ s : State,
    (∃ b, exec .mixE s = .next (s.doneWith b) ∧ ∀ i c : Fin 4, blockByte b i c =
      mul2 (blockByte s.S i c) ^^^ mul3 (blockByte s.S (i + 1) c) ^^^ blockByte s.S (i + 2) c ^^^
        blockByte s.S (i + 3) c) ∧
    (∃ b, exec .mixD s = .next (s.doneWith b) ∧ ∀ i c : Fin 4, blockByte b i c =
      mul14 (blockByte s.S i c) ^^^ mul11 (blockByte s.S (i + 1) c) ^^^ mul13 (blockByte s.S (i + 2) c) ^^^
        mul9 (blockByte s.S (i + 3) c))

/-- R109, R64, R65: both words of ARK r decode to it; with a valid schedule and r <= NR it completes, XORs byte row of word
4r + col into S[row][col], and changes nothing else; without a valid schedule it is fatal(FC_NOKEY), and with one and r > NR
it is fatal(FC_ROUND), S unchanged. -/
def Obligations.ArkAddsTheRoundKey : Prop :=
  (∀ r : BitVec 4, decode (0x7000#32 + r.setWidth 32) = .legal (.ark r.toNat) ∧
    decode (0x7800#32 + r.setWidth 32) = .legal (.ark r.toNat)) ∧
  ∀ (s : State) (r : Nat),
    (s.kvalid = true → r ≤ s.nr.toNat → ∃ b, exec (.ark r) s = .next (s.doneWith b) ∧
      ∀ row col : Fin 4, blockByte b row col =
        blockByte s.S row col ^^^ wordByte (scheduleWord s.w (4 * r + col.val)) row) ∧
    (s.kvalid = false → exec (.ark r) s = .next { s with fatal := true, fcause := 3, done := false, cur := none,
                                                         mi := 0, plan := [] }) ∧
    (s.kvalid = true → s.nr.toNat < r → exec (.ark r) s = .next { s with fatal := true, fcause := 4, done := false,
                                                                         cur := none, mi := 0, plan := [] })

/-- R101, R100: LDS completes when the block lies in the valid input, with S[r][c] = IBUF[16*BIDX + r + 4c] and nothing else
changed, and is fatal(FC_RANGE) when it does not, S unchanged; 16*BIDX does not wrap. -/
def Obligations.LdsLoadsTheBlock : Prop :=
  decode 0x2000#32 = .legal .lds ∧
  ∀ s : State,
    (16 * s.bidx.toNat + 16 ≤ s.ilen → ∃ b, exec .lds s = .next (s.doneWith b) ∧
      ∀ r c : Fin 4, blockByte b r c = s.readBuffer .ibuf (16 * s.bidx.toNat + (r.val + 4 * c.val))) ∧
    (s.ilen < 16 * s.bidx.toNat + 16 → exec .lds s = .next { s with fatal := true, fcause := 5, done := false,
                                                                    cur := none, mi := 0, plan := [] })

/-- R102, R100: STS completes when the block fits OBUF, with byte k of the block at OBUF[16*BIDX + k], every other byte as
before, S and OLEN and all else unchanged; and is fatal(FC_RANGE) when it does not fit, nothing written. -/
def Obligations.StsStoresTheBlock : Prop :=
  decode 0x3000#32 = .legal .sts ∧
  ∀ s : State,
    (16 * s.bidx.toNat + 16 ≤ s.params.bufcap → ∃ t, exec .sts s = .next t ∧
      t = { s with obuf := t.obuf, err := 0, done := true, cur := none, mi := 0, plan := [] } ∧
      (∀ r c : Fin 4, t.readBuffer .obuf (16 * s.bidx.toNat + (r.val + 4 * c.val)) = blockByte s.S r c) ∧
      (∀ a, a < 16 * s.bidx.toNat ∨ 16 * s.bidx.toNat + 16 ≤ a → t.readBuffer .obuf a = s.readBuffer .obuf a)) ∧
    (s.params.bufcap < 16 * s.bidx.toNat + 16 →
      exec .sts s = .next { s with fatal := true, fcause := 5, done := false, cur := none, mi := 0, plan := [] })

/-- R110: SUB, SHR, MIX and ARK write S only, ERR and DONE apart, raise no user-facing error, and each is a single
micro-operation. The new S depends on the old S, and for ARK on NR, KVALID and the round key, alone. -/
def Obligations.TransformsWriteOnlyTheState : Prop :=
  ∀ (i : Instr) (s t : State),
    (i = .subE ∨ i = .subD ∨ i = .shrE ∨ i = .shrD ∨ i = .mixE ∨ i = .mixD ∨ ∃ r, i = .ark r) → exec i s = .next t →
      (uops i s).length = 1 ∧
      (t = s.doneWith t.S ∨ (t.fatal = true ∧ t.S = s.S ∧ t.err = s.err ∧ ∃ r, i = .ark r)) ∧
      ∀ s' t' : State, s'.S = s.S → exec i s' = .next t' →
        (∀ r, i = .ark r → s'.kvalid = s.kvalid ∧ s'.nr = s.nr ∧
          ∀ c : Fin 4, scheduleWord s'.w (4 * r + c.val) = scheduleWord s.w (4 * r + c.val)) → t'.S = t.S

/-- R36: the properties of the tables that other rules rest on. -/
def Obligations.TableProperties : Prop :=
  (∀ b, sboxInv (sbox b) = b ∧ sbox (sboxInv b) = b) ∧ sbox 0x00 = 0x63 ∧ sboxInv 0x00 = 0x52 ∧
    (∀ c, invMixColumn (mixColumn c) = c) ∧
      (∀ a b, mul2 (a ^^^ b) = mul2 a ^^^ mul2 b ∧ mul3 (a ^^^ b) = mul3 a ^^^ mul3 b ∧
        mul9 (a ^^^ b) = mul9 a ^^^ mul9 b ∧ mul11 (a ^^^ b) = mul11 a ^^^ mul11 b ∧
          mul13 (a ^^^ b) = mul13 a ^^^ mul13 b ∧ mul14 (a ^^^ b) = mul14 a ^^^ mul14 b) ∧
        mul2 0 = 0 ∧ mul3 0 = 0 ∧ mul9 0 = 0 ∧ mul11 0 = 0 ∧ mul13 0 = 0 ∧ mul14 0 = 0

/-- R111: in commands, each transform and its inverse, in either order, leave S as it was, and so does ARK r twice. -/
def Obligations.InverseTransformsUndo : Prop :=
  ∀ s : State,
    runCommands [.shrE, .shrD] s = .next (s.doneWith s.S) ∧ runCommands [.shrD, .shrE] s = .next (s.doneWith s.S) ∧
    runCommands [.subE, .subD] s = .next (s.doneWith s.S) ∧ runCommands [.subD, .subE] s = .next (s.doneWith s.S) ∧
    runCommands [.mixE, .mixD] s = .next (s.doneWith s.S) ∧ runCommands [.mixD, .mixE] s = .next (s.doneWith s.S) ∧
    ∀ r, s.kvalid = true → r ≤ s.nr.toNat → runCommands [.ark r, .ark r] s = .next (s.doneWith s.S)

/-! ## The block cipher -/

/-- R120, R121, R125: with a valid schedule CIPH.E and CIPH.D complete, and each leaves the same state, S and all else, as its
primitive commands issued one by one in the order of the rule; only S changes, ERR and DONE apart. Without one both are
fatal(FC_NOKEY), S unchanged. -/
def Obligations.CiphIsItsPrimitiveCommands : Prop :=
  decode 0x8000#32 = .legal .ciphE ∧ decode 0x8800#32 = .legal .ciphD ∧
  (∀ s : State, s.kvalid = true →
    (∃ b, exec .ciphE s = .next (s.doneWith b) ∧ runCommands (ciphECommands s.nr.toNat) s = .next (s.doneWith b)) ∧
    (∃ b, exec .ciphD s = .next (s.doneWith b) ∧ runCommands (ciphDCommands s.nr.toNat) s = .next (s.doneWith b))) ∧
  (∀ s : State, s.kvalid = false →
    exec .ciphE s = .next { s with fatal := true, fcause := 3, done := false, cur := none, mi := 0, plan := [] } ∧
    exec .ciphD s = .next { s with fatal := true, fcause := 3, done := false, cur := none, mi := 0, plan := [] })

/-- R124: with KVALID = 1, CIPH.E ; CIPH.D leaves S as it was, and so does CIPH.D ; CIPH.E. -/
def Obligations.CipherRoundTrip : Prop :=
  ∀ s : State, s.kvalid = true →
    runCommands [.ciphE, .ciphD] s = .next (s.doneWith s.S) ∧ runCommands [.ciphD, .ciphE] s = .next (s.doneWith s.S)

/-- R126: what CIPH leaves in S depends on S, W, NR and KVALID only: two states that agree on those, and on nothing else, end
with the same S. -/
def Obligations.CipherReadsNoOtherState : Prop :=
  ∀ (i : Instr) (s s' t t' : State), (i = .ciphE ∨ i = .ciphD) → s.S = s'.S → s.nr = s'.nr → s.kvalid = s'.kvalid →
    (∀ j, j ≤ 4 * s.nr.toNat + 3 → scheduleWord s.w j = scheduleWord s'.w j) →
      exec i s = .next t → exec i s' = .next t' → t.S = t'.S

/-- The source's vector V1 (R126): with the all-zero 128-bit key, CIPH.E takes the zero block to
66e94bd4ef8a2c3b884cfa59ca342b2e. -/
def Obligations.ZeroKeyKnownAnswer : Prop :=
  ∃ t, runCommands [.kexp, .ciphE] { State.reset with klen := 16 } = .next t ∧
    blockBytes t.S = [0x66, 0xe9, 0x4b, 0xd4, 0xef, 0x8a, 0x2c, 0x3b, 0x88, 0x4c, 0xfa, 0x59, 0xca, 0x34, 0x2b, 0x2e]

/-- R122: the encryptor's and the decryptor's state tables, run from E_INIT and D_INIT to END, do exactly the actions of the
lists of R123 and then no more, for NR = 10 and NR = 14: however many steps above their number are allowed. -/
def Obligations.CipherMachinesFollowTheLists : Prop :=
  ∀ nr : BitVec 4, nr = 10 ∨ nr = 14 → ∀ (rnd : BitVec 4) (steps : Nat), 4 * nr.toNat ≤ steps →
    encTrace nr steps .init rnd = ciphEUops nr.toNat ∧ decTrace nr steps .init rnd = ciphDUops nr.toNat

/-! ## The framer -/

/-- R141, R142, R143: FRM.E appends pad bytes of value pad, pad being 16 - ILEN mod 16, or 16 or nothing by PAD_ALIGNED when
ILEN is a multiple of 16, and raises ILEN by pad; every other byte, and all else, is unchanged. When the padded string does
not fit it is fatal(FC_RANGE) with nothing written; under FULL that is exactly when ILEN = BUFCAP. -/
def Obligations.FrmEPadsInPlace : Prop :=
  decode 0x9000#32 = .legal .frmE ∧
  ∀ (s : State) (pad : Nat), pad = padOf s.params.padAligned s.ilen →
    (s.ilen + pad ≤ s.params.bufcap → ∃ t, exec .frmE s = .next t ∧
      t = { s with ibuf := t.ibuf, ilen := s.ilen + pad, err := 0, done := true, cur := none, mi := 0, plan := [] } ∧
      (∀ a, s.ilen ≤ a → a < s.ilen + pad → t.readBuffer .ibuf a = BitVec.ofNat 8 pad) ∧
      (∀ a, a < s.ilen ∨ s.ilen + pad ≤ a → t.readBuffer .ibuf a = s.readBuffer .ibuf a)) ∧
    (s.params.bufcap < s.ilen + pad →
      exec .frmE s = .next { s with fatal := true, fcause := 5, done := false, cur := none, mi := 0, plan := [] }) ∧
    (s.params.padAligned = .full → s.paramsOk = true → s.ilen ≤ s.params.bufcap →
      (s.params.bufcap < s.ilen + pad ↔ s.ilen = s.params.bufcap))

/-- R144, R145: FRM.D strips exactly p bytes when the last p bytes of the output all equal p and 1 <= p <= 16; when there is no
such p, the empty output included, it completes with the notice PVF and strips nothing; no byte of OBUF, and nothing else,
changes. When OLEN is no multiple of 16 it is fatal(FC_LEN). -/
def Obligations.FrmDStripsThePadding : Prop :=
  decode 0x9800#32 = .legal .frmD ∧
  ∀ s : State,
    (s.olen % 16 = 0 → ∀ p, PaddedBy (s.readBuffer .obuf) s.olen p →
      exec .frmD s = .next { s with olen := s.olen - p, err := 0, done := true, cur := none, mi := 0, plan := [] }) ∧
    (s.olen % 16 = 0 → (∀ p, ¬ PaddedBy (s.readBuffer .obuf) s.olen p) →
      exec .frmD s = .next { s with err := 8, done := true, cur := none, mi := 0, plan := [] }) ∧
    (s.olen % 16 ≠ 0 →
      exec .frmD s = .next { s with fatal := true, fcause := 6, done := false, cur := none, mi := 0, plan := [] })

/-- R146: padding with FRM.E and unpadding the same bytes with FRM.D gives back the input with ERR = 0 under FULL; under NONE an
aligned input whose last byte is 0x01 loses that byte, and an aligned one without a valid-looking tail comes back whole with
PVF. -/
def Obligations.FramerRoundTrip : Prop :=
  ∀ s t u : State, s.paramsOk = true → s.ilen < s.params.bufcap → exec .frmE s = .next t → u.olen = t.ilen →
    (∀ a, a < t.ilen → u.readBuffer .obuf a = t.readBuffer .ibuf a) → ∃ v, exec .frmD u = .next v ∧
      (∀ a, a < v.olen → v.readBuffer .obuf a = s.readBuffer .ibuf a) ∧
      (s.params.padAligned = .full → v.olen = s.ilen ∧ v.err = 0) ∧
      (s.params.padAligned = .none → s.ilen % 16 = 0 → 0 < s.ilen → s.readBuffer .ibuf (s.ilen - 1) = 0x01 →
        v.olen = s.ilen - 1 ∧ v.err = 0) ∧
      (s.params.padAligned = .none → s.ilen % 16 = 0 → (∀ p, ¬ PaddedBy (s.readBuffer .ibuf) s.ilen p) →
        v.olen = s.ilen ∧ v.err = 8)

/-! ## The stream commands -/

/-- R161, R166, R169: when the checks pass, RUN.E completes. W, NR and KVALID are those KEXP leaves; IBUF is padded as FRM.E
pads it; output block i is the encryption of padded input block i alone, as CIPH.E encrypts it under that schedule; OLEN is
the padded length, BIDX the number of blocks, S the last output block (unchanged when there is none); every byte of OBUF at
and above OLEN, and all else, is unchanged. The values of S and BIDX rest on NLANES = 1 (log entry 13). -/
def Obligations.RunEEncryptsTheStream : Prop :=
  decode 0xA000#32 = .legal .runE ∧
  ∀ (s : State) (len n : Nat), s.paramsOk = true → s.klen.toNat = keyBytes s.ks →
    len = s.ilen + padOf s.params.padAligned s.ilen → len ≤ s.params.bufcap → n = len / 16 →
      ∃ t k f, exec .runE s = .next t ∧ exec .kexp s = .next k ∧ exec .frmE s = .next f ∧
        t = { s with S := t.S, w := k.w, nr := k.nr, kvalid := true, ilen := len, olen := len, bidx := BitVec.ofNat 32 n,
                     ibuf := f.ibuf, obuf := t.obuf, err := 0, done := true, cur := none, mi := 0, plan := [] } ∧
        (∀ i, i < n → exec .ciphE { k with S := t.bufferBlock .ibuf i } = .next (k.doneWith (t.bufferBlock .obuf i))) ∧
        (∀ a, len ≤ a → t.readBuffer .obuf a = s.readBuffer .obuf a) ∧
        (0 < n → t.S = t.bufferBlock .obuf (n - 1)) ∧ (n = 0 → t.S = s.S)

/-- R162, R166: when the checks pass, RUN.D completes. W, NR and KVALID are those KEXP leaves; output block i is the decryption
of input block i alone, as CIPH.D decrypts it; then the padding is stripped as FRM.D strips it: OLEN is the input length less
p, or, when the output has no valid padding, the input length with ERR = PVF. BIDX is the number of blocks, S the last output
block; IBUF, ILEN, every byte of OBUF at and above the input length, and all else, are unchanged. The values of S and BIDX rest
on NLANES = 1 (log entry 13). -/
def Obligations.RunDDecryptsTheStream : Prop :=
  decode 0xA800#32 = .legal .runD ∧
  ∀ (s : State) (n : Nat), s.paramsOk = true → s.ilen ≤ s.params.bufcap → s.klen.toNat = keyBytes s.ks →
    s.ilen = 16 * n → ∃ t k, exec .runD s = .next t ∧ exec .kexp s = .next k ∧
      t = { s with S := t.S, w := k.w, nr := k.nr, kvalid := true, olen := t.olen, bidx := BitVec.ofNat 32 n,
                   obuf := t.obuf, err := t.err, done := true, cur := none, mi := 0, plan := [] } ∧
      (∀ i, i < n → exec .ciphD { k with S := t.bufferBlock .ibuf i } = .next (k.doneWith (t.bufferBlock .obuf i))) ∧
      (∀ a, s.ilen ≤ a → t.readBuffer .obuf a = s.readBuffer .obuf a) ∧
      (0 < n → t.S = t.bufferBlock .obuf (n - 1)) ∧ (n = 0 → t.S = s.S) ∧
      (∀ p, PaddedBy (t.readBuffer .obuf) s.ilen p → t.olen = s.ilen - p ∧ t.err = 0) ∧
      ((∀ p, ¬ PaddedBy (t.readBuffer .obuf) s.ilen p) → t.olen = s.ilen ∧ t.err = 8)

/-- R163: the pre-flight of RUN.E and RUN.D. RUN.E is fatal(FC_RANGE) when the padded input does not fit, before the key is
looked at. Else every failing check is reported at once, KVALID is cleared exactly when a key check failed, and nothing else is
written. -/
def Obligations.RunPreflight : Prop :=
  (∀ (s : State) (len : Nat), len = s.ilen + padOf s.params.padAligned s.ilen →
    (s.params.bufcap < len →
      exec .runE s = .next { s with fatal := true, fcause := 5, done := false, cur := none, mi := 0, plan := [] }) ∧
    (len ≤ s.params.bufcap → s.klen.toNat ≠ keyBytes s.ks →
      exec .runE s = .next { s with kvalid := false, err := if s.klen.toNat < keyBytes s.ks then 3 else 1, done := false,
                                    cur := none, mi := 0, plan := [] })) ∧
  (∀ s : State,
    (s.klen.toNat ≠ keyBytes s.ks → s.ilen % 16 = 0 →
      exec .runD s = .next { s with kvalid := false, err := if s.klen.toNat < keyBytes s.ks then 3 else 1, done := false,
                                    cur := none, mi := 0, plan := [] }) ∧
    (s.klen.toNat ≠ keyBytes s.ks → s.ilen % 16 ≠ 0 →
      exec .runD s = .next { s with kvalid := false, err := if s.klen.toNat < keyBytes s.ks then 7 else 5, done := false,
                                    cur := none, mi := 0, plan := [] }) ∧
    (s.klen.toNat = keyBytes s.ks → s.ilen % 16 ≠ 0 →
      exec .runD s = .next { s with err := 4, done := false, cur := none, mi := 0, plan := [] }))

/-- R165: when no check fails, RUN.E and RUN.D leave every register, W, S and both buffers, ERR and STATUS too, in the same
state as the host-driven sequence of the rule. That each command line of it is one step, which leaves rdata as it is, and that the
lines stand in State, is the model's (log entries 1 and 2). -/
def Obligations.RunEqualsTheHostSequence : Prop :=
  ∀ (s : State) (n : Nat), s.ready = true → s.host = [] → s.paramsOk = true → s.lengthsOk = true →
    s.klen.toNat = keyBytes s.ks →
    (s.ilen + padOf s.params.padAligned s.ilen = 16 * n → 16 * n ≤ s.params.bufcap →
      Host.Core.run Sys2Proof.core (programOps (runELines n)).length { s with host := programOps (runELines n) } =
        exec .runE s) ∧
    (s.ilen = 16 * n →
      Host.Core.run Sys2Proof.core (programOps (runDLines n)).length { s with host := programOps (runDLines n) } =
        exec .runD s)

/-- R168: with PAD_ALIGNED = FULL and an input shorter than BUFCAP, RUN.E, then copying the output to the input, then RUN.D with
the same key registers, gives back the input bytes with ERR = 0. -/
def Obligations.StreamRoundTrip : Prop :=
  ∀ (s t : State) (m : Memory), s.paramsOk = true → s.params.padAligned = .full → s.ilen < s.params.bufcap →
    s.klen.toNat = keyBytes s.ks → exec .runE s = .next t →
      (∀ a, a < t.olen → State.readBuffer { t with ibuf := m } .ibuf a = t.readBuffer .obuf a) →
        ∃ v, exec .runD { t with ibuf := m, ilen := t.olen } = .next v ∧ v.olen = s.ilen ∧ v.err = 0 ∧
          ∀ a, a < s.ilen → v.readBuffer .obuf a = s.readBuffer .ibuf a

/-- R169: encrypting a concatenation of whole-block inputs A and B gives the blocks of A's output, then those of B's, then the
encrypted padding block, which is the same in all three outputs. -/
def Obligations.RunEOfAConcatenation : Prop :=
  ∀ (A B AB tA tB tAB : State), (A.paramsOk = true ∧ B.paramsOk = true ∧ AB.paramsOk = true) →
    (A.params.padAligned = .full ∧ B.params.padAligned = .full ∧ AB.params.padAligned = .full) →
    (AB.ks = A.ks ∧ AB.ks = B.ks ∧ ∀ j, j < keyBytes AB.ks → A.keyByte j = AB.keyByte j ∧ B.keyByte j = AB.keyByte j) →
    (A.klen.toNat = keyBytes A.ks ∧ B.klen.toNat = keyBytes B.ks ∧ AB.klen.toNat = keyBytes AB.ks) →
    (A.ilen % 16 = 0 ∧ B.ilen % 16 = 0 ∧ AB.ilen = A.ilen + B.ilen) →
    (A.ilen < A.params.bufcap ∧ B.ilen < B.params.bufcap ∧ AB.ilen < AB.params.bufcap) →
    (∀ k, k < A.ilen → AB.readBuffer .ibuf k = A.readBuffer .ibuf k) →
    (∀ k, k < B.ilen → AB.readBuffer .ibuf (A.ilen + k) = B.readBuffer .ibuf k) →
    exec .runE A = .next tA → exec .runE B = .next tB → exec .runE AB = .next tAB →
      tAB.olen = A.ilen + B.ilen + 16 ∧
      (∀ k, k < A.ilen → tAB.readBuffer .obuf k = tA.readBuffer .obuf k) ∧
      (∀ k, k < B.ilen → tAB.readBuffer .obuf (A.ilen + k) = tB.readBuffer .obuf k) ∧
      (∀ k, k < 16 → tAB.readBuffer .obuf (A.ilen + B.ilen + k) = tA.readBuffer .obuf (A.ilen + k) ∧
        tAB.readBuffer .obuf (A.ilen + B.ilen + k) = tB.readBuffer .obuf (B.ilen + k))

/-- R167: the stream machine, from R_PRE until it is idle, does exactly the micro-operations of the lists and then no more, for
every block count: however many phases above their number are allowed. -/
def Obligations.StreamMachineFollowsTheLists : Prop :=
  ∀ (ks : KeySize) (n b phases : Nat), 3 * n + 4 ≤ phases →
    runTrace .encrypt ks n phases .pre b = runEUops ks n ∧ runTrace .decrypt ks n phases .pre b = runDUops ks n

/-! ## Micro-operations -/

/-- R87, R110, R123, R147, R167, R221: the number of micro-operations of every command: for RUN.E of a number of blocks that is
the padded input length over 16, for RUN.D the input length over 16. -/
def Obligations.MicroOperationCounts : Prop :=
  ∀ s : State,
    (uops .kexp s).length = (if s.ks = .k128 then 43 else 55) ∧
    (0 < s.nr.toNat → (uops .ciphE s).length = 4 * s.nr.toNat ∧ (uops .ciphD s).length = 4 * s.nr.toNat) ∧
    (∀ (ks : KeySize) (n : Nat), (runEUops ks n).length =
      1 + (if ks = .k128 then 42 else 54) + 1 + n * (3 + 4 * (if ks = .k128 then 10 else 14)) + 1) ∧
    (∀ (ks : KeySize) (n : Nat), (runDUops ks n).length =
      1 + (if ks = .k128 then 42 else 54) + n * (3 + 4 * (if ks = .k128 then 10 else 14)) + 1 + 1) ∧
    (∀ n, n = (s.ilen + padOf s.params.padAligned s.ilen) / 16 → uops .runE s = runEUops s.ks n ∧
      (uops .runE s).length = 1 + (if s.ks = .k128 then 42 else 54) + 1 +
        n * (3 + 4 * (if s.ks = .k128 then 10 else 14)) + 1) ∧
    (∀ n, n = s.ilen / 16 → uops .runD s = runDUops s.ks n ∧
      (uops .runD s).length = 1 + (if s.ks = .k128 then 42 else 54) +
        n * (3 + 4 * (if s.ks = .k128 then 10 else 14)) + 1 + 1) ∧
    (∀ i, i ≠ .kexp → i ≠ .ciphE → i ≠ .ciphD → i ≠ .runE → i ≠ .runD → (uops i s).length = 1)

/-- R25: the result of a command is the composition of its micro-operations: from acceptance, the engine stepping through the
list fixed there comes to rest in the state that exec gives the command, for every command and every state. -/
def Obligations.CommandIsItsMicroOperations : Prop :=
  ∀ (i : Instr) (s : State) (word : BitVec 16),
    exec i s = .next (engineSteps (uops i s).length (s.accept word (uops i s)))

/-- R21, R25, R46: on the bus, a bare write of a legal word to CMD followed by polling STATUS until BUSY = 0 leads to the state
exec gives the command, with the last STATUS read answered. The acts of the host and the answer are the
model's fields (log entries 1, 2 and 7). -/
def Obligations.IssueAndPollEqualsTheCommand : Prop :=
  ∀ (s t : State) (v : BitVec 32) (i : Instr), s.ready = true → s.host = [.write32 .regs 0x000 v, .poll] →
    decode v = .legal i → exec i { s with host := [] } = .next t →
      ∃ k, Host.Core.run Sys2Proof.core k s = .next { t with rdata := some t.statusWord }

/-- R26: a busy engine comes to rest: after at most as many steps as its list has entries left, BUSY = 0. -/
def Obligations.BusyEngineComesToRest : Prop :=
  ∀ s : State, s.Inv = true → (engineSteps (s.plan.length - s.mi) s).busy = false
end

