-- ==== Sys2Proof/Laws/Memory.lean ====
section
/-! SUPPORT. The laws of the buffers: a read after a write, and that every write keeps the canonical form. -/

namespace Sys2Proof.Machine

@[simp] theorem lookup_nil (x : Nat) : Memory.lookup [] x = none := rfl

theorem lookup_store_same (m : Memory) (x : Nat) (v : Byte) : (m.store x v).lookup x = some v := by
  induction m with
  | nil => simp [Memory.store, Memory.lookup]
  | cons c m ih =>
    obtain ⟨a, u⟩ := c
    simp only [Memory.store]
    split
    · simp [Memory.lookup]
    · split
      · simp [Memory.lookup]
      · rename_i h
        have : a ≠ x := fun e => h e.symm
        simp [Memory.lookup, this, ih]

theorem lookup_store_other (m : Memory) {x y : Nat} (v : Byte) (h : y ≠ x) :
    (m.store x v).lookup y = m.lookup y := by
  induction m with
  | nil => simp [Memory.store, Memory.lookup, h.symm]
  | cons c m ih =>
    obtain ⟨a, u⟩ := c
    simp only [Memory.store]
    split
    · simp [Memory.lookup, h.symm]
    · split
      · rename_i e
        subst e
        simp [Memory.lookup, h.symm]
      · simp [Memory.lookup, ih]

/-- A read after a write of one byte. -/
theorem lookup_store (m : Memory) (x y : Nat) (v : Byte) :
    (m.store x v).lookup y = if y = x then some v else m.lookup y := by
  split
  · next h => rw [h, lookup_store_same]
  · next h => exact lookup_store_other m v h

/-- A read after a write of consecutive bytes: inside the range the byte written, outside it what was there. -/
theorem lookup_storeList (m : Memory) (x y : Nat) (vs : List Byte) :
    (m.storeList x vs).lookup y =
      if x ≤ y ∧ y < x + vs.length then vs[y - x]? else m.lookup y := by
  induction vs generalizing m x with
  | nil =>
    simp only [Memory.storeList, List.length_nil]
    split
    · omega
    · rfl
  | cons v vs ih =>
    simp only [Memory.storeList, ih, lookup_store, List.length_cons]
    by_cases h1 : x + 1 ≤ y ∧ y < x + 1 + vs.length
    · have h2 : x ≤ y ∧ y < x + (vs.length + 1) := by omega
      have h3 : y - x = (y - (x + 1)) + 1 := by omega
      simp [h1, h2, h3]
    · by_cases h2 : y = x
      · subst h2
        have h4 : ¬ (y + 1 ≤ y) := by omega
        simp [h4]
      · have h3 : ¬ (x ≤ y ∧ y < x + (vs.length + 1)) := by omega
        rw [if_neg h1, if_neg h2, if_neg h3]

theorem risesAbove_store {lo : Nat} (m : Memory) (x : Nat) (v : Byte) (hlo : lo < x)
    (h : Memory.risesAbove lo m = true) : Memory.risesAbove lo (m.store x v) = true := by
  induction m generalizing lo with
  | nil => simp [Memory.store, Memory.risesAbove, hlo]
  | cons c m ih =>
    obtain ⟨a, u⟩ := c
    simp only [Memory.risesAbove, Bool.and_eq_true, decide_eq_true_eq] at h
    simp only [Memory.store]
    split
    · next hx => simp [Memory.risesAbove, hlo, hx, h.2]
    · split
      · next e => subst e; simp [Memory.risesAbove, hlo, h.2]
      · next h1 h2 => simp [Memory.risesAbove, h.1, ih (by omega) h.2]

/-- A write of one byte keeps the canonical form. -/
theorem wf_store (m : Memory) (x : Nat) (v : Byte) (h : m.wf = true) : (m.store x v).wf = true := by
  cases m with
  | nil => simp [Memory.store, Memory.wf, Memory.risesAbove]
  | cons c m =>
    obtain ⟨a, u⟩ := c
    simp only [Memory.wf] at h
    simp only [Memory.store]
    split
    · next hx => simp [Memory.wf, Memory.risesAbove, hx, h]
    · split
      · next e => subst e; simpa [Memory.wf] using h
      · next h1 h2 => simpa [Memory.wf] using risesAbove_store m x v (by omega) h

/-- A write of consecutive bytes keeps the canonical form. -/
theorem wf_storeList (m : Memory) (x : Nat) (vs : List Byte) (h : m.wf = true) : (m.storeList x vs).wf = true := by
  induction vs generalizing m x with
  | nil => exact h
  | cons v vs ih => exact ih _ _ (wf_store m x v h)

/-- The addresses listed after a write of one byte stay below a bound the new address is below. -/
theorem below_store {n : Nat} (m : Memory) (x : Nat) (v : Byte) (hx : x < n) (h : m.below n = true) :
    (m.store x v).below n = true := by
  induction m with
  | nil => simp [Memory.store, Memory.below, hx]
  | cons c m ih =>
    obtain ⟨a, u⟩ := c
    simp only [Memory.below, List.all_cons, Bool.and_eq_true, decide_eq_true_eq] at h ih
    simp only [Memory.store]
    split
    · simp only [Memory.below, List.all_cons, Bool.and_eq_true, decide_eq_true_eq]
      exact ⟨hx, h.1, h.2⟩
    · split
      · simp only [Memory.below, List.all_cons, Bool.and_eq_true, decide_eq_true_eq]
        exact ⟨hx, h.2⟩
      · simp only [Memory.below, List.all_cons, Bool.and_eq_true, decide_eq_true_eq]
        exact ⟨h.1, ih h.2⟩

/-- The addresses listed after a write of consecutive bytes stay below a bound the range is below. -/
theorem below_storeList {n : Nat} (m : Memory) (x : Nat) (vs : List Byte) (hx : x + vs.length ≤ n)
    (h : m.below n = true) : (m.storeList x vs).below n = true := by
  induction vs generalizing m x with
  | nil => exact h
  | cons v vs ih =>
    simp only [List.length_cons] at hx
    exact ih _ _ (by omega) (below_store m x v (by omega) h)

/-- What a write of consecutive bytes to a buffer does to a read of a byte of either buffer. -/
theorem readBuffer_memWrite (s : State) (b b' : Buffer) (a y : Nat) (vs : List Byte) :
    (s.memWrite b a vs).readBuffer b' y =
      if b = b' ∧ a ≤ y ∧ y < a + vs.length then vs.getD (y - a) 0 else s.readBuffer b' y := by
  have key : ∀ m : Memory, ∀ d : Byte, ((m.storeList a vs).lookup y).getD d =
      if a ≤ y ∧ y < a + vs.length then vs.getD (y - a) 0 else (m.lookup y).getD d := by
    intro m d
    rw [lookup_storeList]
    split
    · next h =>
      have hl : y - a < vs.length := by omega
      simp [List.getD, List.getElem?_eq_getElem hl]
    · rfl
  cases b <;> cases b' <;>
    simp [State.readBuffer, State.memWrite, State.bufferMemory, key]

/-- A write to a buffer changes no field but that buffer. -/
theorem memWrite_eq (s : State) (b : Buffer) (a : Nat) (vs : List Byte) :
    s.memWrite b a vs =
      { s with ibuf := (s.memWrite b a vs).ibuf, obuf := (s.memWrite b a vs).obuf } := by
  cases b <;> rfl

end Sys2Proof.Machine
end

