-- ==== Sys2Proof/Laws/State.lean ====
section
/-! SUPPORT. One lemma per field for every named update of the state, each true by unfolding the update once. -/

namespace Sys2Proof.Machine

variable (s : State)

/-! ### `idle`: `SEQ <- (none, 0)` (R25) -/

@[simp] theorem idle_params : s.idle.params = s.params := rfl
@[simp] theorem idle_S : s.idle.S = s.S := rfl
@[simp] theorem idle_key : s.idle.key = s.key := rfl
@[simp] theorem idle_klen : s.idle.klen = s.klen := rfl
@[simp] theorem idle_ks : s.idle.ks = s.ks := rfl
@[simp] theorem idle_w : s.idle.w = s.w := rfl
@[simp] theorem idle_nr : s.idle.nr = s.nr := rfl
@[simp] theorem idle_kvalid : s.idle.kvalid = s.kvalid := rfl
@[simp] theorem idle_ilen : s.idle.ilen = s.ilen := rfl
@[simp] theorem idle_olen : s.idle.olen = s.olen := rfl
@[simp] theorem idle_bidx : s.idle.bidx = s.bidx := rfl
@[simp] theorem idle_ibuf : s.idle.ibuf = s.ibuf := rfl
@[simp] theorem idle_obuf : s.idle.obuf = s.obuf := rfl
@[simp] theorem idle_done : s.idle.done = s.done := rfl
@[simp] theorem idle_fatal : s.idle.fatal = s.fatal := rfl
@[simp] theorem idle_err : s.idle.err = s.err := rfl
@[simp] theorem idle_fcause : s.idle.fcause = s.fcause := rfl
@[simp] theorem idle_cur : s.idle.cur = none := rfl
@[simp] theorem idle_mi : s.idle.mi = 0 := rfl
@[simp] theorem idle_plan : s.idle.plan = [] := rfl
@[simp] theorem idle_epoch : s.idle.epoch = s.epoch := rfl
@[simp] theorem idle_host : s.idle.host = s.host := rfl
@[simp] theorem idle_rdata : s.idle.rdata = s.rdata := rfl

/-! ### `accept`: acceptance (R185) -/

@[simp] theorem accept_params (word : BitVec 16) (us : List MicroOp) : (s.accept word us).params = s.params := rfl
@[simp] theorem accept_S (word : BitVec 16) (us : List MicroOp) : (s.accept word us).S = s.S := rfl
@[simp] theorem accept_key (word : BitVec 16) (us : List MicroOp) : (s.accept word us).key = s.key := rfl
@[simp] theorem accept_klen (word : BitVec 16) (us : List MicroOp) : (s.accept word us).klen = s.klen := rfl
@[simp] theorem accept_ks (word : BitVec 16) (us : List MicroOp) : (s.accept word us).ks = s.ks := rfl
@[simp] theorem accept_w (word : BitVec 16) (us : List MicroOp) : (s.accept word us).w = s.w := rfl
@[simp] theorem accept_nr (word : BitVec 16) (us : List MicroOp) : (s.accept word us).nr = s.nr := rfl
@[simp] theorem accept_kvalid (word : BitVec 16) (us : List MicroOp) : (s.accept word us).kvalid = s.kvalid := rfl
@[simp] theorem accept_ilen (word : BitVec 16) (us : List MicroOp) : (s.accept word us).ilen = s.ilen := rfl
@[simp] theorem accept_olen (word : BitVec 16) (us : List MicroOp) : (s.accept word us).olen = s.olen := rfl
@[simp] theorem accept_bidx (word : BitVec 16) (us : List MicroOp) : (s.accept word us).bidx = s.bidx := rfl
@[simp] theorem accept_ibuf (word : BitVec 16) (us : List MicroOp) : (s.accept word us).ibuf = s.ibuf := rfl
@[simp] theorem accept_obuf (word : BitVec 16) (us : List MicroOp) : (s.accept word us).obuf = s.obuf := rfl
@[simp] theorem accept_done (word : BitVec 16) (us : List MicroOp) : (s.accept word us).done = false := rfl
@[simp] theorem accept_fatal (word : BitVec 16) (us : List MicroOp) : (s.accept word us).fatal = s.fatal := rfl
@[simp] theorem accept_err (word : BitVec 16) (us : List MicroOp) : (s.accept word us).err = s.err := rfl
@[simp] theorem accept_fcause (word : BitVec 16) (us : List MicroOp) : (s.accept word us).fcause = s.fcause := rfl
@[simp] theorem accept_cur (word : BitVec 16) (us : List MicroOp) : (s.accept word us).cur = some word := rfl
@[simp] theorem accept_mi (word : BitVec 16) (us : List MicroOp) : (s.accept word us).mi = 0 := rfl
@[simp] theorem accept_plan (word : BitVec 16) (us : List MicroOp) : (s.accept word us).plan = us := rfl
@[simp] theorem accept_epoch (word : BitVec 16) (us : List MicroOp) : (s.accept word us).epoch = s.epoch := rfl
@[simp] theorem accept_host (word : BitVec 16) (us : List MicroOp) : (s.accept word us).host = s.host := rfl
@[simp] theorem accept_rdata (word : BitVec 16) (us : List MicroOp) : (s.accept word us).rdata = s.rdata := rfl

/-! ### `finish`: `done()` (R183) -/

@[simp] theorem finish_params (bits : BitVec 4) : (s.finish bits).params = s.params := rfl
@[simp] theorem finish_S (bits : BitVec 4) : (s.finish bits).S = s.S := rfl
@[simp] theorem finish_key (bits : BitVec 4) : (s.finish bits).key = s.key := rfl
@[simp] theorem finish_klen (bits : BitVec 4) : (s.finish bits).klen = s.klen := rfl
@[simp] theorem finish_ks (bits : BitVec 4) : (s.finish bits).ks = s.ks := rfl
@[simp] theorem finish_w (bits : BitVec 4) : (s.finish bits).w = s.w := rfl
@[simp] theorem finish_nr (bits : BitVec 4) : (s.finish bits).nr = s.nr := rfl
@[simp] theorem finish_kvalid (bits : BitVec 4) : (s.finish bits).kvalid = s.kvalid := rfl
@[simp] theorem finish_ilen (bits : BitVec 4) : (s.finish bits).ilen = s.ilen := rfl
@[simp] theorem finish_olen (bits : BitVec 4) : (s.finish bits).olen = s.olen := rfl
@[simp] theorem finish_bidx (bits : BitVec 4) : (s.finish bits).bidx = s.bidx := rfl
@[simp] theorem finish_ibuf (bits : BitVec 4) : (s.finish bits).ibuf = s.ibuf := rfl
@[simp] theorem finish_obuf (bits : BitVec 4) : (s.finish bits).obuf = s.obuf := rfl
@[simp] theorem finish_done (bits : BitVec 4) : (s.finish bits).done = true := rfl
@[simp] theorem finish_fatal (bits : BitVec 4) : (s.finish bits).fatal = s.fatal := rfl
@[simp] theorem finish_err (bits : BitVec 4) : (s.finish bits).err = bits := rfl
@[simp] theorem finish_fcause (bits : BitVec 4) : (s.finish bits).fcause = s.fcause := rfl
@[simp] theorem finish_cur (bits : BitVec 4) : (s.finish bits).cur = none := rfl
@[simp] theorem finish_mi (bits : BitVec 4) : (s.finish bits).mi = 0 := rfl
@[simp] theorem finish_plan (bits : BitVec 4) : (s.finish bits).plan = [] := rfl
@[simp] theorem finish_epoch (bits : BitVec 4) : (s.finish bits).epoch = s.epoch := rfl
@[simp] theorem finish_host (bits : BitVec 4) : (s.finish bits).host = s.host := rfl
@[simp] theorem finish_rdata (bits : BitVec 4) : (s.finish bits).rdata = s.rdata := rfl

/-! ### `abort`: `raise Error` (R184) -/

@[simp] theorem abort_params (bits : BitVec 4) : (s.abort bits).params = s.params := rfl
@[simp] theorem abort_S (bits : BitVec 4) : (s.abort bits).S = s.S := rfl
@[simp] theorem abort_key (bits : BitVec 4) : (s.abort bits).key = s.key := rfl
@[simp] theorem abort_klen (bits : BitVec 4) : (s.abort bits).klen = s.klen := rfl
@[simp] theorem abort_ks (bits : BitVec 4) : (s.abort bits).ks = s.ks := rfl
@[simp] theorem abort_w (bits : BitVec 4) : (s.abort bits).w = s.w := rfl
@[simp] theorem abort_nr (bits : BitVec 4) : (s.abort bits).nr = s.nr := rfl
@[simp] theorem abort_kvalid (bits : BitVec 4) : (s.abort bits).kvalid = s.kvalid := rfl
@[simp] theorem abort_ilen (bits : BitVec 4) : (s.abort bits).ilen = s.ilen := rfl
@[simp] theorem abort_olen (bits : BitVec 4) : (s.abort bits).olen = s.olen := rfl
@[simp] theorem abort_bidx (bits : BitVec 4) : (s.abort bits).bidx = s.bidx := rfl
@[simp] theorem abort_ibuf (bits : BitVec 4) : (s.abort bits).ibuf = s.ibuf := rfl
@[simp] theorem abort_obuf (bits : BitVec 4) : (s.abort bits).obuf = s.obuf := rfl
@[simp] theorem abort_done (bits : BitVec 4) : (s.abort bits).done = false := rfl
@[simp] theorem abort_fatal (bits : BitVec 4) : (s.abort bits).fatal = s.fatal := rfl
@[simp] theorem abort_err (bits : BitVec 4) : (s.abort bits).err = bits := rfl
@[simp] theorem abort_fcause (bits : BitVec 4) : (s.abort bits).fcause = s.fcause := rfl
@[simp] theorem abort_cur (bits : BitVec 4) : (s.abort bits).cur = none := rfl
@[simp] theorem abort_mi (bits : BitVec 4) : (s.abort bits).mi = 0 := rfl
@[simp] theorem abort_plan (bits : BitVec 4) : (s.abort bits).plan = [] := rfl
@[simp] theorem abort_epoch (bits : BitVec 4) : (s.abort bits).epoch = s.epoch := rfl
@[simp] theorem abort_host (bits : BitVec 4) : (s.abort bits).host = s.host := rfl
@[simp] theorem abort_rdata (bits : BitVec 4) : (s.abort bits).rdata = s.rdata := rfl

/-! ### `enterFatal`: `fatal(cause)` (R187) -/

@[simp] theorem enterFatal_params (c : FatalCause) : (s.enterFatal c).params = s.params := rfl
@[simp] theorem enterFatal_S (c : FatalCause) : (s.enterFatal c).S = s.S := rfl
@[simp] theorem enterFatal_key (c : FatalCause) : (s.enterFatal c).key = s.key := rfl
@[simp] theorem enterFatal_klen (c : FatalCause) : (s.enterFatal c).klen = s.klen := rfl
@[simp] theorem enterFatal_ks (c : FatalCause) : (s.enterFatal c).ks = s.ks := rfl
@[simp] theorem enterFatal_w (c : FatalCause) : (s.enterFatal c).w = s.w := rfl
@[simp] theorem enterFatal_nr (c : FatalCause) : (s.enterFatal c).nr = s.nr := rfl
@[simp] theorem enterFatal_kvalid (c : FatalCause) : (s.enterFatal c).kvalid = s.kvalid := rfl
@[simp] theorem enterFatal_ilen (c : FatalCause) : (s.enterFatal c).ilen = s.ilen := rfl
@[simp] theorem enterFatal_olen (c : FatalCause) : (s.enterFatal c).olen = s.olen := rfl
@[simp] theorem enterFatal_bidx (c : FatalCause) : (s.enterFatal c).bidx = s.bidx := rfl
@[simp] theorem enterFatal_ibuf (c : FatalCause) : (s.enterFatal c).ibuf = s.ibuf := rfl
@[simp] theorem enterFatal_obuf (c : FatalCause) : (s.enterFatal c).obuf = s.obuf := rfl
@[simp] theorem enterFatal_done (c : FatalCause) : (s.enterFatal c).done = false := rfl
@[simp] theorem enterFatal_fatal (c : FatalCause) : (s.enterFatal c).fatal = true := rfl
@[simp] theorem enterFatal_err (c : FatalCause) : (s.enterFatal c).err = s.err := rfl
@[simp] theorem enterFatal_fcause (c : FatalCause) : (s.enterFatal c).fcause = c.code := rfl
@[simp] theorem enterFatal_cur (c : FatalCause) : (s.enterFatal c).cur = none := rfl
@[simp] theorem enterFatal_mi (c : FatalCause) : (s.enterFatal c).mi = 0 := rfl
@[simp] theorem enterFatal_plan (c : FatalCause) : (s.enterFatal c).plan = [] := rfl
@[simp] theorem enterFatal_epoch (c : FatalCause) : (s.enterFatal c).epoch = s.epoch := rfl
@[simp] theorem enterFatal_host (c : FatalCause) : (s.enterFatal c).host = s.host := rfl
@[simp] theorem enterFatal_rdata (c : FatalCause) : (s.enterFatal c).rdata = s.rdata := rfl

/-! ### `setBidx`: SETB (R167) -/

@[simp] theorem setBidx_params (b : Nat) : (s.setBidx b).params = s.params := rfl
@[simp] theorem setBidx_S (b : Nat) : (s.setBidx b).S = s.S := rfl
@[simp] theorem setBidx_key (b : Nat) : (s.setBidx b).key = s.key := rfl
@[simp] theorem setBidx_klen (b : Nat) : (s.setBidx b).klen = s.klen := rfl
@[simp] theorem setBidx_ks (b : Nat) : (s.setBidx b).ks = s.ks := rfl
@[simp] theorem setBidx_w (b : Nat) : (s.setBidx b).w = s.w := rfl
@[simp] theorem setBidx_nr (b : Nat) : (s.setBidx b).nr = s.nr := rfl
@[simp] theorem setBidx_kvalid (b : Nat) : (s.setBidx b).kvalid = s.kvalid := rfl
@[simp] theorem setBidx_ilen (b : Nat) : (s.setBidx b).ilen = s.ilen := rfl
@[simp] theorem setBidx_olen (b : Nat) : (s.setBidx b).olen = s.olen := rfl
@[simp] theorem setBidx_bidx (b : Nat) : (s.setBidx b).bidx = BitVec.ofNat 32 b := rfl
@[simp] theorem setBidx_ibuf (b : Nat) : (s.setBidx b).ibuf = s.ibuf := rfl
@[simp] theorem setBidx_obuf (b : Nat) : (s.setBidx b).obuf = s.obuf := rfl
@[simp] theorem setBidx_done (b : Nat) : (s.setBidx b).done = s.done := rfl
@[simp] theorem setBidx_fatal (b : Nat) : (s.setBidx b).fatal = s.fatal := rfl
@[simp] theorem setBidx_err (b : Nat) : (s.setBidx b).err = s.err := rfl
@[simp] theorem setBidx_fcause (b : Nat) : (s.setBidx b).fcause = s.fcause := rfl
@[simp] theorem setBidx_cur (b : Nat) : (s.setBidx b).cur = s.cur := rfl
@[simp] theorem setBidx_mi (b : Nat) : (s.setBidx b).mi = s.mi := rfl
@[simp] theorem setBidx_plan (b : Nat) : (s.setBidx b).plan = s.plan := rfl
@[simp] theorem setBidx_epoch (b : Nat) : (s.setBidx b).epoch = s.epoch := rfl
@[simp] theorem setBidx_host (b : Nat) : (s.setBidx b).host = s.host := rfl
@[simp] theorem setBidx_rdata (b : Nat) : (s.setBidx b).rdata = s.rdata := rfl

/-! ### `finishBlocks`: FIN (R167) -/

@[simp] theorem finishBlocks_params (n : Nat) : (s.finishBlocks n).params = s.params := rfl
@[simp] theorem finishBlocks_S (n : Nat) : (s.finishBlocks n).S = s.S := rfl
@[simp] theorem finishBlocks_key (n : Nat) : (s.finishBlocks n).key = s.key := rfl
@[simp] theorem finishBlocks_klen (n : Nat) : (s.finishBlocks n).klen = s.klen := rfl
@[simp] theorem finishBlocks_ks (n : Nat) : (s.finishBlocks n).ks = s.ks := rfl
@[simp] theorem finishBlocks_w (n : Nat) : (s.finishBlocks n).w = s.w := rfl
@[simp] theorem finishBlocks_nr (n : Nat) : (s.finishBlocks n).nr = s.nr := rfl
@[simp] theorem finishBlocks_kvalid (n : Nat) : (s.finishBlocks n).kvalid = s.kvalid := rfl
@[simp] theorem finishBlocks_ilen (n : Nat) : (s.finishBlocks n).ilen = s.ilen := rfl
@[simp] theorem finishBlocks_olen (n : Nat) : (s.finishBlocks n).olen = s.ilen := rfl
@[simp] theorem finishBlocks_bidx (n : Nat) : (s.finishBlocks n).bidx = BitVec.ofNat 32 n := rfl
@[simp] theorem finishBlocks_ibuf (n : Nat) : (s.finishBlocks n).ibuf = s.ibuf := rfl
@[simp] theorem finishBlocks_obuf (n : Nat) : (s.finishBlocks n).obuf = s.obuf := rfl
@[simp] theorem finishBlocks_done (n : Nat) : (s.finishBlocks n).done = s.done := rfl
@[simp] theorem finishBlocks_fatal (n : Nat) : (s.finishBlocks n).fatal = s.fatal := rfl
@[simp] theorem finishBlocks_err (n : Nat) : (s.finishBlocks n).err = s.err := rfl
@[simp] theorem finishBlocks_fcause (n : Nat) : (s.finishBlocks n).fcause = s.fcause := rfl
@[simp] theorem finishBlocks_cur (n : Nat) : (s.finishBlocks n).cur = s.cur := rfl
@[simp] theorem finishBlocks_mi (n : Nat) : (s.finishBlocks n).mi = s.mi := rfl
@[simp] theorem finishBlocks_plan (n : Nat) : (s.finishBlocks n).plan = s.plan := rfl
@[simp] theorem finishBlocks_epoch (n : Nat) : (s.finishBlocks n).epoch = s.epoch := rfl
@[simp] theorem finishBlocks_host (n : Nat) : (s.finishBlocks n).host = s.host := rfl
@[simp] theorem finishBlocks_rdata (n : Nat) : (s.finishBlocks n).rdata = s.rdata := rfl

/-! ### `loadKey`: KLD (R87) -/

@[simp] theorem loadKey_params : s.loadKey.params = s.params := rfl
@[simp] theorem loadKey_S : s.loadKey.S = s.S := rfl
@[simp] theorem loadKey_key : s.loadKey.key = s.key := rfl
@[simp] theorem loadKey_klen : s.loadKey.klen = s.klen := rfl
@[simp] theorem loadKey_ks : s.loadKey.ks = s.ks := rfl
@[simp] theorem loadKey_w : s.loadKey.w = loadWords s.keyWord (keyWords s.ks) s.w := rfl
@[simp] theorem loadKey_nr : s.loadKey.nr = s.nr := rfl
@[simp] theorem loadKey_kvalid : s.loadKey.kvalid = false := rfl
@[simp] theorem loadKey_ilen : s.loadKey.ilen = s.ilen := rfl
@[simp] theorem loadKey_olen : s.loadKey.olen = s.olen := rfl
@[simp] theorem loadKey_bidx : s.loadKey.bidx = s.bidx := rfl
@[simp] theorem loadKey_ibuf : s.loadKey.ibuf = s.ibuf := rfl
@[simp] theorem loadKey_obuf : s.loadKey.obuf = s.obuf := rfl
@[simp] theorem loadKey_done : s.loadKey.done = s.done := rfl
@[simp] theorem loadKey_fatal : s.loadKey.fatal = s.fatal := rfl
@[simp] theorem loadKey_err : s.loadKey.err = s.err := rfl
@[simp] theorem loadKey_fcause : s.loadKey.fcause = s.fcause := rfl
@[simp] theorem loadKey_cur : s.loadKey.cur = s.cur := rfl
@[simp] theorem loadKey_mi : s.loadKey.mi = s.mi := rfl
@[simp] theorem loadKey_plan : s.loadKey.plan = s.plan := rfl
@[simp] theorem loadKey_epoch : s.loadKey.epoch = s.epoch := rfl
@[simp] theorem loadKey_host : s.loadKey.host = s.host := rfl
@[simp] theorem loadKey_rdata : s.loadKey.rdata = s.rdata := rfl

/-! ### `generateWord`: KGEN (R87) -/

@[simp] theorem generateWord_params (i : Nat) : (s.generateWord i).params = s.params := rfl
@[simp] theorem generateWord_S (i : Nat) : (s.generateWord i).S = s.S := rfl
@[simp] theorem generateWord_key (i : Nat) : (s.generateWord i).key = s.key := rfl
@[simp] theorem generateWord_klen (i : Nat) : (s.generateWord i).klen = s.klen := rfl
@[simp] theorem generateWord_ks (i : Nat) : (s.generateWord i).ks = s.ks := rfl
@[simp] theorem generateWord_w (i : Nat) : (s.generateWord i).w = setScheduleWord s.w i (scheduleNext (keyWords s.ks) i s.w) := rfl
@[simp] theorem generateWord_nr (i : Nat) : (s.generateWord i).nr = s.nr := rfl
@[simp] theorem generateWord_kvalid (i : Nat) : (s.generateWord i).kvalid = s.kvalid := rfl
@[simp] theorem generateWord_ilen (i : Nat) : (s.generateWord i).ilen = s.ilen := rfl
@[simp] theorem generateWord_olen (i : Nat) : (s.generateWord i).olen = s.olen := rfl
@[simp] theorem generateWord_bidx (i : Nat) : (s.generateWord i).bidx = s.bidx := rfl
@[simp] theorem generateWord_ibuf (i : Nat) : (s.generateWord i).ibuf = s.ibuf := rfl
@[simp] theorem generateWord_obuf (i : Nat) : (s.generateWord i).obuf = s.obuf := rfl
@[simp] theorem generateWord_done (i : Nat) : (s.generateWord i).done = s.done := rfl
@[simp] theorem generateWord_fatal (i : Nat) : (s.generateWord i).fatal = s.fatal := rfl
@[simp] theorem generateWord_err (i : Nat) : (s.generateWord i).err = s.err := rfl
@[simp] theorem generateWord_fcause (i : Nat) : (s.generateWord i).fcause = s.fcause := rfl
@[simp] theorem generateWord_cur (i : Nat) : (s.generateWord i).cur = s.cur := rfl
@[simp] theorem generateWord_mi (i : Nat) : (s.generateWord i).mi = s.mi := rfl
@[simp] theorem generateWord_plan (i : Nat) : (s.generateWord i).plan = s.plan := rfl
@[simp] theorem generateWord_epoch (i : Nat) : (s.generateWord i).epoch = s.epoch := rfl
@[simp] theorem generateWord_host (i : Nat) : (s.generateWord i).host = s.host := rfl
@[simp] theorem generateWord_rdata (i : Nat) : (s.generateWord i).rdata = s.rdata := rfl

/-! ### `latchSchedule`: KFIN (R87) -/

@[simp] theorem latchSchedule_params : s.latchSchedule.params = s.params := rfl
@[simp] theorem latchSchedule_S : s.latchSchedule.S = s.S := rfl
@[simp] theorem latchSchedule_key : s.latchSchedule.key = s.key := rfl
@[simp] theorem latchSchedule_klen : s.latchSchedule.klen = s.klen := rfl
@[simp] theorem latchSchedule_ks : s.latchSchedule.ks = s.ks := rfl
@[simp] theorem latchSchedule_w : s.latchSchedule.w = s.w := rfl
@[simp] theorem latchSchedule_nr : s.latchSchedule.nr = roundsOf s.ks := rfl
@[simp] theorem latchSchedule_kvalid : s.latchSchedule.kvalid = true := rfl
@[simp] theorem latchSchedule_ilen : s.latchSchedule.ilen = s.ilen := rfl
@[simp] theorem latchSchedule_olen : s.latchSchedule.olen = s.olen := rfl
@[simp] theorem latchSchedule_bidx : s.latchSchedule.bidx = s.bidx := rfl
@[simp] theorem latchSchedule_ibuf : s.latchSchedule.ibuf = s.ibuf := rfl
@[simp] theorem latchSchedule_obuf : s.latchSchedule.obuf = s.obuf := rfl
@[simp] theorem latchSchedule_done : s.latchSchedule.done = s.done := rfl
@[simp] theorem latchSchedule_fatal : s.latchSchedule.fatal = s.fatal := rfl
@[simp] theorem latchSchedule_err : s.latchSchedule.err = s.err := rfl
@[simp] theorem latchSchedule_fcause : s.latchSchedule.fcause = s.fcause := rfl
@[simp] theorem latchSchedule_cur : s.latchSchedule.cur = s.cur := rfl
@[simp] theorem latchSchedule_mi : s.latchSchedule.mi = s.mi := rfl
@[simp] theorem latchSchedule_plan : s.latchSchedule.plan = s.plan := rfl
@[simp] theorem latchSchedule_epoch : s.latchSchedule.epoch = s.epoch := rfl
@[simp] theorem latchSchedule_host : s.latchSchedule.host = s.host := rfl
@[simp] theorem latchSchedule_rdata : s.latchSchedule.rdata = s.rdata := rfl

/-! ### `setKeyByte`: a write of KEY[j] (R13) -/

@[simp] theorem setKeyByte_params (j : Nat) (v : Byte) : (s.setKeyByte j v).params = s.params := rfl
@[simp] theorem setKeyByte_S (j : Nat) (v : Byte) : (s.setKeyByte j v).S = s.S := rfl
@[simp] theorem setKeyByte_key (j : Nat) (v : Byte) : (s.setKeyByte j v).key = s.key.setIfInBounds j v := rfl
@[simp] theorem setKeyByte_klen (j : Nat) (v : Byte) : (s.setKeyByte j v).klen = s.klen := rfl
@[simp] theorem setKeyByte_ks (j : Nat) (v : Byte) : (s.setKeyByte j v).ks = s.ks := rfl
@[simp] theorem setKeyByte_w (j : Nat) (v : Byte) : (s.setKeyByte j v).w = s.w := rfl
@[simp] theorem setKeyByte_nr (j : Nat) (v : Byte) : (s.setKeyByte j v).nr = s.nr := rfl
@[simp] theorem setKeyByte_kvalid (j : Nat) (v : Byte) : (s.setKeyByte j v).kvalid = s.kvalid := rfl
@[simp] theorem setKeyByte_ilen (j : Nat) (v : Byte) : (s.setKeyByte j v).ilen = s.ilen := rfl
@[simp] theorem setKeyByte_olen (j : Nat) (v : Byte) : (s.setKeyByte j v).olen = s.olen := rfl
@[simp] theorem setKeyByte_bidx (j : Nat) (v : Byte) : (s.setKeyByte j v).bidx = s.bidx := rfl
@[simp] theorem setKeyByte_ibuf (j : Nat) (v : Byte) : (s.setKeyByte j v).ibuf = s.ibuf := rfl
@[simp] theorem setKeyByte_obuf (j : Nat) (v : Byte) : (s.setKeyByte j v).obuf = s.obuf := rfl
@[simp] theorem setKeyByte_done (j : Nat) (v : Byte) : (s.setKeyByte j v).done = s.done := rfl
@[simp] theorem setKeyByte_fatal (j : Nat) (v : Byte) : (s.setKeyByte j v).fatal = s.fatal := rfl
@[simp] theorem setKeyByte_err (j : Nat) (v : Byte) : (s.setKeyByte j v).err = s.err := rfl
@[simp] theorem setKeyByte_fcause (j : Nat) (v : Byte) : (s.setKeyByte j v).fcause = s.fcause := rfl
@[simp] theorem setKeyByte_cur (j : Nat) (v : Byte) : (s.setKeyByte j v).cur = s.cur := rfl
@[simp] theorem setKeyByte_mi (j : Nat) (v : Byte) : (s.setKeyByte j v).mi = s.mi := rfl
@[simp] theorem setKeyByte_plan (j : Nat) (v : Byte) : (s.setKeyByte j v).plan = s.plan := rfl
@[simp] theorem setKeyByte_epoch (j : Nat) (v : Byte) : (s.setKeyByte j v).epoch = s.epoch := rfl
@[simp] theorem setKeyByte_host (j : Nat) (v : Byte) : (s.setKeyByte j v).host = s.host := rfl
@[simp] theorem setKeyByte_rdata (j : Nat) (v : Byte) : (s.setKeyByte j v).rdata = s.rdata := rfl

/-! ### `memWrite` to `ibuf` (R9) -/

@[simp] theorem memWrite_ibuf_params (a : Nat) (vs : List Byte) : (s.memWrite .ibuf a vs).params = s.params := rfl
@[simp] theorem memWrite_ibuf_S (a : Nat) (vs : List Byte) : (s.memWrite .ibuf a vs).S = s.S := rfl
@[simp] theorem memWrite_ibuf_key (a : Nat) (vs : List Byte) : (s.memWrite .ibuf a vs).key = s.key := rfl
@[simp] theorem memWrite_ibuf_klen (a : Nat) (vs : List Byte) : (s.memWrite .ibuf a vs).klen = s.klen := rfl
@[simp] theorem memWrite_ibuf_ks (a : Nat) (vs : List Byte) : (s.memWrite .ibuf a vs).ks = s.ks := rfl
@[simp] theorem memWrite_ibuf_w (a : Nat) (vs : List Byte) : (s.memWrite .ibuf a vs).w = s.w := rfl
@[simp] theorem memWrite_ibuf_nr (a : Nat) (vs : List Byte) : (s.memWrite .ibuf a vs).nr = s.nr := rfl
@[simp] theorem memWrite_ibuf_kvalid (a : Nat) (vs : List Byte) : (s.memWrite .ibuf a vs).kvalid = s.kvalid := rfl
@[simp] theorem memWrite_ibuf_ilen (a : Nat) (vs : List Byte) : (s.memWrite .ibuf a vs).ilen = s.ilen := rfl
@[simp] theorem memWrite_ibuf_olen (a : Nat) (vs : List Byte) : (s.memWrite .ibuf a vs).olen = s.olen := rfl
@[simp] theorem memWrite_ibuf_bidx (a : Nat) (vs : List Byte) : (s.memWrite .ibuf a vs).bidx = s.bidx := rfl
@[simp] theorem memWrite_ibuf_ibuf (a : Nat) (vs : List Byte) : (s.memWrite .ibuf a vs).ibuf = s.ibuf.storeList a vs := rfl
@[simp] theorem memWrite_ibuf_obuf (a : Nat) (vs : List Byte) : (s.memWrite .ibuf a vs).obuf = s.obuf := rfl
@[simp] theorem memWrite_ibuf_done (a : Nat) (vs : List Byte) : (s.memWrite .ibuf a vs).done = s.done := rfl
@[simp] theorem memWrite_ibuf_fatal (a : Nat) (vs : List Byte) : (s.memWrite .ibuf a vs).fatal = s.fatal := rfl
@[simp] theorem memWrite_ibuf_err (a : Nat) (vs : List Byte) : (s.memWrite .ibuf a vs).err = s.err := rfl
@[simp] theorem memWrite_ibuf_fcause (a : Nat) (vs : List Byte) : (s.memWrite .ibuf a vs).fcause = s.fcause := rfl
@[simp] theorem memWrite_ibuf_cur (a : Nat) (vs : List Byte) : (s.memWrite .ibuf a vs).cur = s.cur := rfl
@[simp] theorem memWrite_ibuf_mi (a : Nat) (vs : List Byte) : (s.memWrite .ibuf a vs).mi = s.mi := rfl
@[simp] theorem memWrite_ibuf_plan (a : Nat) (vs : List Byte) : (s.memWrite .ibuf a vs).plan = s.plan := rfl
@[simp] theorem memWrite_ibuf_epoch (a : Nat) (vs : List Byte) : (s.memWrite .ibuf a vs).epoch = s.epoch := rfl
@[simp] theorem memWrite_ibuf_host (a : Nat) (vs : List Byte) : (s.memWrite .ibuf a vs).host = s.host := rfl
@[simp] theorem memWrite_ibuf_rdata (a : Nat) (vs : List Byte) : (s.memWrite .ibuf a vs).rdata = s.rdata := rfl

/-! ### `memWrite` to `obuf` (R9) -/

@[simp] theorem memWrite_obuf_params (a : Nat) (vs : List Byte) : (s.memWrite .obuf a vs).params = s.params := rfl
@[simp] theorem memWrite_obuf_S (a : Nat) (vs : List Byte) : (s.memWrite .obuf a vs).S = s.S := rfl
@[simp] theorem memWrite_obuf_key (a : Nat) (vs : List Byte) : (s.memWrite .obuf a vs).key = s.key := rfl
@[simp] theorem memWrite_obuf_klen (a : Nat) (vs : List Byte) : (s.memWrite .obuf a vs).klen = s.klen := rfl
@[simp] theorem memWrite_obuf_ks (a : Nat) (vs : List Byte) : (s.memWrite .obuf a vs).ks = s.ks := rfl
@[simp] theorem memWrite_obuf_w (a : Nat) (vs : List Byte) : (s.memWrite .obuf a vs).w = s.w := rfl
@[simp] theorem memWrite_obuf_nr (a : Nat) (vs : List Byte) : (s.memWrite .obuf a vs).nr = s.nr := rfl
@[simp] theorem memWrite_obuf_kvalid (a : Nat) (vs : List Byte) : (s.memWrite .obuf a vs).kvalid = s.kvalid := rfl
@[simp] theorem memWrite_obuf_ilen (a : Nat) (vs : List Byte) : (s.memWrite .obuf a vs).ilen = s.ilen := rfl
@[simp] theorem memWrite_obuf_olen (a : Nat) (vs : List Byte) : (s.memWrite .obuf a vs).olen = s.olen := rfl
@[simp] theorem memWrite_obuf_bidx (a : Nat) (vs : List Byte) : (s.memWrite .obuf a vs).bidx = s.bidx := rfl
@[simp] theorem memWrite_obuf_ibuf (a : Nat) (vs : List Byte) : (s.memWrite .obuf a vs).ibuf = s.ibuf := rfl
@[simp] theorem memWrite_obuf_obuf (a : Nat) (vs : List Byte) : (s.memWrite .obuf a vs).obuf = s.obuf.storeList a vs := rfl
@[simp] theorem memWrite_obuf_done (a : Nat) (vs : List Byte) : (s.memWrite .obuf a vs).done = s.done := rfl
@[simp] theorem memWrite_obuf_fatal (a : Nat) (vs : List Byte) : (s.memWrite .obuf a vs).fatal = s.fatal := rfl
@[simp] theorem memWrite_obuf_err (a : Nat) (vs : List Byte) : (s.memWrite .obuf a vs).err = s.err := rfl
@[simp] theorem memWrite_obuf_fcause (a : Nat) (vs : List Byte) : (s.memWrite .obuf a vs).fcause = s.fcause := rfl
@[simp] theorem memWrite_obuf_cur (a : Nat) (vs : List Byte) : (s.memWrite .obuf a vs).cur = s.cur := rfl
@[simp] theorem memWrite_obuf_mi (a : Nat) (vs : List Byte) : (s.memWrite .obuf a vs).mi = s.mi := rfl
@[simp] theorem memWrite_obuf_plan (a : Nat) (vs : List Byte) : (s.memWrite .obuf a vs).plan = s.plan := rfl
@[simp] theorem memWrite_obuf_epoch (a : Nat) (vs : List Byte) : (s.memWrite .obuf a vs).epoch = s.epoch := rfl
@[simp] theorem memWrite_obuf_host (a : Nat) (vs : List Byte) : (s.memWrite .obuf a vs).host = s.host := rfl
@[simp] theorem memWrite_obuf_rdata (a : Nat) (vs : List Byte) : (s.memWrite .obuf a vs).rdata = s.rdata := rfl

/-! ### `busy` -/

@[simp] theorem busy_idle : s.idle.busy = false := rfl
@[simp] theorem busy_accept (word : BitVec 16) (us : List MicroOp) : (s.accept word us).busy = true := rfl
@[simp] theorem busy_finish (bits : BitVec 4) : (s.finish bits).busy = false := rfl
@[simp] theorem busy_abort (bits : BitVec 4) : (s.abort bits).busy = false := rfl
@[simp] theorem busy_enterFatal (c : FatalCause) : (s.enterFatal c).busy = false := rfl

end Sys2Proof.Machine
end

