-- ==== Sys2Proof/Laws/Effects.lean ====
section
/-! SUPPORT. What the shared operations of a command can do: how an effect is chained and settled, and the frame of every
command and every micro-operation. -/

namespace Sys2Proof.Machine

/-! ## Chaining and settling -/

@[simp] theorem andThen_ok (t : State) (f : State → Effect) : (Effect.ok t).andThen f = f t := rfl
@[simp] theorem andThen_notice (t : State) (f : State → Effect) : (Effect.notice t).andThen f = .notice t := rfl
@[simp] theorem andThen_error (t : State) (b : BitVec 4) (f : State → Effect) :
    (Effect.error t b).andThen f = .error t b := rfl
@[simp] theorem andThen_fatal (t : State) (c : FatalCause) (f : State → Effect) :
    (Effect.fatal t c).andThen f = .fatal t c := rfl

theorem andThen_assoc (e : Effect) (f g : State → Effect) :
    (e.andThen f).andThen g = e.andThen fun t => (f t).andThen g := by cases e <;> rfl

/-- A property of the state reached holds after a chain if it holds after the first part and the rest keeps it. -/
theorem andThen_keeps {P : State → Prop} {e : Effect} {f : State → Effect} (he : P e.state)
    (hf : ∀ t, P t → P (f t).state) : P (e.andThen f).state := by
  cases e
  · exact hf _ he
  · exact he
  · exact he
  · exact he

@[simp] theorem complete_eq (e : Effect) : complete e = .next e.settle := rfl

/-- How a command ends: done with ERR = 0, done with the PVF notice, aborted with error bits, or fatal (R183, R184, R187). -/
theorem settle_cases (e : Effect) :
    (∃ t, e = .ok t ∧ e.settle = t.finish 0) ∨ (∃ t, e = .notice t ∧ e.settle = t.finish errPVF) ∨
      (∃ t b, e = .error t b ∧ e.settle = t.abort b) ∨ (∃ t c, e = .fatal t c ∧ e.settle = t.enterFatal c) := by
  cases e
  · exact .inl ⟨_, rfl, rfl⟩
  · exact .inr (.inl ⟨_, rfl, rfl⟩)
  · exact .inr (.inr (.inl ⟨_, _, rfl, rfl⟩))
  · exact .inr (.inr (.inr ⟨_, _, rfl, rfl⟩))

/-- Settling writes ERR, DONE, FATAL, FCAUSE and SEQ only. -/
theorem settle_eq (e : Effect) :
    e.settle = { e.state with err := e.settle.err, done := e.settle.done, fatal := e.settle.fatal,
                              fcause := e.settle.fcause, cur := e.settle.cur, mi := e.settle.mi,
                              plan := e.settle.plan } := by cases e <;> rfl

/-- A settled engine is idle. -/
@[simp] theorem busy_settle (e : Effect) : e.settle.busy = false := by cases e <;> rfl

/-! ## The frame of the work of commands -/

/-- `t` differs from `s` at most in what the work of a command may write: S, W, NR, KVALID, ILEN, OLEN, BIDX, IBUF, OBUF. -/
def SameOutsideWork (s t : State) : Prop :=
  t = { s with S := t.S, w := t.w, nr := t.nr, kvalid := t.kvalid, ilen := t.ilen, olen := t.olen, bidx := t.bidx,
               ibuf := t.ibuf, obuf := t.obuf }

theorem SameOutsideWork.refl (s : State) : SameOutsideWork s s := rfl

theorem SameOutsideWork.trans {s t u : State} (h1 : SameOutsideWork s t) (h2 : SameOutsideWork t u) :
    SameOutsideWork s u := by
  unfold SameOutsideWork at *
  rw [h2, h1]

theorem memWrite_frame (s : State) (b : Buffer) (a : Nat) (vs : List Byte) : SameOutsideWork s (s.memWrite b a vs) := by
  cases b <;> rfl

theorem stsEffect_frame (s : State) : SameOutsideWork s (stsEffect s).state := by
  unfold stsEffect
  dsimp only
  split
  · rfl
  · exact memWrite_frame s .obuf _ _

theorem frmEEffect_frame (s : State) : SameOutsideWork s (frmEEffect s).state := by
  unfold frmEEffect
  split
  · rfl
  · exact (memWrite_frame s .ibuf s.ilen _).trans rfl

/-- What a micro-operation leaves alone, whichever it is. -/
theorem microEffect_frame (u : MicroOp) (s : State) : SameOutsideWork s (microEffect u s).state := by
  cases u
  case sts => exact stsEffect_frame s
  case frmE => exact frmEEffect_frame s
  all_goals
    simp only [microEffect, keyCheckEffect, ldsEffect, transformEffect, arkEffect, frmDEffect, preflightE, preflightD,
      State.loadKey, State.generateWord, State.latchSchedule, State.finishBlocks, State.setBidx]
    (repeat' split) <;> rfl

theorem expandKey_frame (s : State) : SameOutsideWork s s.expandKey := rfl

theorem setBidx_frame (s : State) (b : Nat) : SameOutsideWork s (s.setBidx b) := rfl

theorem finishBlocks_frame (s : State) (n : Nat) : SameOutsideWork s (s.finishBlocks n) := rfl

theorem kexpEffect_frame (s : State) : SameOutsideWork s (kexpEffect s).state :=
  andThen_keeps (P := SameOutsideWork s) (microEffect_frame .kchk s) fun t h => h.trans (expandKey_frame t)

theorem ciphEEffect_frame (s : State) : SameOutsideWork s (ciphEEffect s).state := by
  unfold ciphEEffect
  split <;> rfl

theorem ciphDEffect_frame (s : State) : SameOutsideWork s (ciphDEffect s).state := by
  unfold ciphDEffect
  split <;> rfl

theorem runBlocks_frame {cipher : State → Effect} (hc : ∀ s, SameOutsideWork s (cipher s).state) (n b : Nat)
    (s : State) : SameOutsideWork s (runBlocks cipher n b s).state := by
  induction n generalizing b s with
  | zero => rfl
  | succ n ih =>
    refine andThen_keeps ((setBidx_frame s b).trans (microEffect_frame .lds (s.setBidx b))) fun t ht => ?_
    refine andThen_keeps (ht.trans (hc t)) fun u hu => ?_
    exact andThen_keeps (hu.trans (microEffect_frame .sts u)) fun v hv => hv.trans (ih _ _)

theorem runEEffect_frame (s : State) : SameOutsideWork s (runEEffect s).state := by
  refine andThen_keeps (microEffect_frame .preE s) fun t ht => ?_
  refine andThen_keeps ((ht.trans (expandKey_frame t)).trans (microEffect_frame .frmE t.expandKey)) fun u hu => ?_
  exact andThen_keeps (hu.trans (runBlocks_frame ciphEEffect_frame _ _ _)) fun v hv => hv.trans (finishBlocks_frame v _)

theorem runDEffect_frame (s : State) : SameOutsideWork s (runDEffect s).state := by
  refine andThen_keeps (microEffect_frame .preD s) fun t ht => ?_
  refine andThen_keeps ((ht.trans (expandKey_frame t)).trans (runBlocks_frame ciphDEffect_frame _ _ t.expandKey)) fun v hv => ?_
  exact (hv.trans (finishBlocks_frame v _)).trans (microEffect_frame .frmD _)

/-! ## Every command is an effect, settled -/

/-- The work of every command. -/
def commandEffect : Instr → State → Effect
  | .kexp => kexpEffect
  | .lds => ldsEffect
  | .sts => stsEffect
  | .subE => transformEffect subBytes
  | .subD => transformEffect invSubBytes
  | .shrE => transformEffect shiftRows
  | .shrD => transformEffect invShiftRows
  | .mixE => transformEffect mixColumns
  | .mixD => transformEffect invMixColumns
  | .ark r => arkEffect r
  | .ciphE => ciphEEffect
  | .ciphD => ciphDEffect
  | .frmE => frmEEffect
  | .frmD => frmDEffect
  | .runE => runEEffect
  | .runD => runDEffect

/-- The meaning of every command is its work, settled: always a next state. -/
theorem exec_eq (i : Instr) (s : State) : exec i s = .next (commandEffect i s).settle := by cases i <;> rfl

/-- What the work of a command leaves alone, whichever it is. -/
theorem commandEffect_frame (i : Instr) (s : State) : SameOutsideWork s (commandEffect i s).state := by
  cases i
  · exact kexpEffect_frame s
  · exact microEffect_frame .lds s
  · exact microEffect_frame .sts s
  · exact microEffect_frame .subE s
  · exact microEffect_frame .subD s
  · exact microEffect_frame .shrE s
  · exact microEffect_frame .shrD s
  · exact microEffect_frame .mixE s
  · exact microEffect_frame .mixD s
  · exact microEffect_frame (.ark _) s
  · exact ciphEEffect_frame s
  · exact ciphDEffect_frame s
  · exact microEffect_frame .frmE s
  · exact microEffect_frame .frmD s
  · exact runEEffect_frame s
  · exact runDEffect_frame s

end Sys2Proof.Machine
end

