-- ==== Sys2Proof/Laws/Layout.lean ====
section
/-! SUPPORT. The laws of words and blocks: a block is its sixteen bytes, and what each constructor's bytes are. -/

namespace Sys2Proof.Machine

@[simp] theorem wordByte_wordOf (f : Fin 4 → Byte) (k : Fin 4) : wordByte (wordOf f) k = f k := by
  match k with
  | 0 | 1 | 2 | 3 => rfl

@[simp] theorem blockByte_blockOf (f : Fin 4 → Fin 4 → Byte) (r c : Fin 4) : blockByte (blockOf f) r c = f r c := by
  match c with
  | 0 | 1 | 2 | 3 =>
    match r with
    | 0 | 1 | 2 | 3 => rfl

/-- A word is its four bytes. -/
theorem word_ext {a b : Word} (h : ∀ k, wordByte a k = wordByte b k) : a = b := by
  cases a; cases b
  simpa [wordByte] using And.intro (h 0) (And.intro (h 1) (And.intro (h 2) (h 3)))

/-- A block is its sixteen bytes. -/
theorem block_ext {a b : Block} (h : ∀ r c, blockByte a r c = blockByte b r c) : a = b := by
  have col : ∀ c, blockColumn a c = blockColumn b c := fun c => word_ext fun r => h r c
  cases a; cases b
  simpa [blockColumn] using And.intro (col 0) (And.intro (col 1) (And.intro (col 2) (col 3)))

@[simp] theorem blockOf_blockByte (b : Block) : blockOf (blockByte b) = b := block_ext fun r c => by simp

@[simp] theorem blockColumn_mapColumns (f : Word → Word) (b : Block) (c : Fin 4) :
    blockColumn (mapColumns f b) c = f (blockColumn b c) := by
  match c with
  | 0 | 1 | 2 | 3 => rfl

@[simp] theorem blockByte_blockOfBytes (B : Nat → Byte) (r c : Fin 4) :
    blockByte (blockOfBytes B) r c = B (r.val + 4 * c.val) := by simp [blockOfBytes]

theorem blockBytes_length (b : Block) : (blockBytes b).length = 16 := rfl

/-- Byte `r + 4c` of the linear view is `S[r][c]` (R100). -/
theorem blockBytes_getD (b : Block) (r c : Fin 4) : (blockBytes b).getD (r.val + 4 * c.val) 0 = blockByte b r c := by
  match c with
  | 0 | 1 | 2 | 3 =>
    match r with
    | 0 | 1 | 2 | 3 => rfl

/-- Byte `k` of the linear view, for `k` in 0..15 (R12). -/
theorem linearByte_eq (b : Block) {k : Nat} (h : k < 16) : linearByte b k = (blockBytes b).getD k 0 := by
  have e : k = (Fin.ofNat 4 k).val + 4 * (Fin.ofNat 4 (k / 4)).val := by
    simp only [Fin.ofNat]
    omega
  rw [linearByte, ← blockBytes_getD, ← e]

/-- Reading back the bytes of a block gives the block. -/
theorem blockOfBytes_blockBytes (b : Block) : blockOfBytes (fun k => (blockBytes b).getD k 0) = b :=
  block_ext fun r c => by rw [blockByte_blockOfBytes, blockBytes_getD]

@[simp] theorem wordByte_xor (a b : Word) (k : Fin 4) : wordByte (a.xor b) k = wordByte a k ^^^ wordByte b k := by
  match k with
  | 0 | 1 | 2 | 3 => rfl

@[simp] theorem blockByte_subBytes (T : Block) (r c : Fin 4) : blockByte (subBytes T) r c = sbox (blockByte T r c) := by
  simp [subBytes]

@[simp] theorem blockByte_invSubBytes (T : Block) (r c : Fin 4) :
    blockByte (invSubBytes T) r c = sboxInv (blockByte T r c) := by simp [invSubBytes]

@[simp] theorem blockByte_shiftRows (T : Block) (r c : Fin 4) :
    blockByte (shiftRows T) r c = blockByte T r (c + r) := by simp [shiftRows]

@[simp] theorem blockByte_invShiftRows (T : Block) (r c : Fin 4) :
    blockByte (invShiftRows T) r c = blockByte T r (c - r) := by simp [invShiftRows]

@[simp] theorem blockByte_addRoundKey (w : Vector Word 60) (n : Nat) (T : Block) (r c : Fin 4) :
    blockByte (addRoundKey w n T) r c = blockByte T r c ^^^ blockByte (roundKey w n) r c := by simp [addRoundKey]

/-- Byte `row` of column `col` of a round key is byte `row` of word `4n + col` (R109). -/
theorem blockByte_roundKey (w : Vector Word 60) (n : Nat) (r c : Fin 4) :
    blockByte (roundKey w n) r c = wordByte (scheduleWord w (4 * n + c.val)) r := by
  match c with
  | 0 | 1 | 2 | 3 => rfl

end Sys2Proof.Machine
end

