-- ==== Sys2Proof/Laws/PerInstr.lean ====
section
/-! SUPPORT. Statements made per instruction: every command word has format C (R61). -/

namespace Sys2Proof.Laws.Format

/-- The value the R field of a command's word holds: the round index of ARK, zero in every other command (R61). -/
def roundOperand : Instr → Nat
  | .ark r => r
  | _ => 0

/-- The word of a well-formed command has format C (R61): bits 31:16 of the CMD write and Z are zero, OP is one of 0x1 to
0xA, and R holds the round operand. -/
def Statement (i : Instr) : Prop :=
  i.wellFormed = true →
    (cmdValue (encode i)).extractLsb' 16 16 = 0#16 ∧ fieldZ (cmdValue (encode i)) = 0 ∧
      1 ≤ fieldOp (cmdValue (encode i)) ∧ fieldOp (cmdValue (encode i)) ≤ 0xA ∧
        fieldR (cmdValue (encode i)) = roundOperand i

theorem kexp : Statement .kexp := fun _ => by decide
theorem lds : Statement .lds := fun _ => by decide
theorem sts : Statement .sts := fun _ => by decide
theorem subE : Statement .subE := fun _ => by decide
theorem subD : Statement .subD := fun _ => by decide
theorem shrE : Statement .shrE := fun _ => by decide
theorem shrD : Statement .shrD := fun _ => by decide
theorem mixE : Statement .mixE := fun _ => by decide
theorem mixD : Statement .mixD := fun _ => by decide

theorem ark (r : Nat) : Statement (.ark r) := fun h => by
  have all : ∀ n : Fin 16, (cmdValue (encode (.ark n.val))).extractLsb' 16 16 = 0#16 ∧
      fieldZ (cmdValue (encode (.ark n.val))) = 0 ∧ 1 ≤ fieldOp (cmdValue (encode (.ark n.val))) ∧
        fieldOp (cmdValue (encode (.ark n.val))) ≤ 0xA ∧
          fieldR (cmdValue (encode (.ark n.val))) = roundOperand (.ark n.val) := by decide
  exact all ⟨r, by simpa [Instr.wellFormed] using h⟩

theorem ciphE : Statement .ciphE := fun _ => by decide
theorem ciphD : Statement .ciphD := fun _ => by decide
theorem frmE : Statement .frmE := fun _ => by decide
theorem frmD : Statement .frmD := fun _ => by decide
theorem runE : Statement .runE := fun _ => by decide
theorem runD : Statement .runD := fun _ => by decide

end Sys2Proof.Laws.Format
end

