-- ==== Sys2Proof/Laws/Schedule.lean ====
section
/-! SUPPORT. The laws of the schedule file: a read after a write, and what loading and generating words leave. -/

namespace Sys2Proof.Machine

theorem scheduleWord_set (w : Vector Word 60) (i j : Nat) (v : Word) (hi : i < 60) :
    scheduleWord (setScheduleWord w i v) j = if j = i then v else scheduleWord w j := by
  unfold scheduleWord setScheduleWord
  rw [Vector.getElem?_setIfInBounds]
  by_cases h : i = j
  · subst h; simp [hi]
  · have h' : ¬ j = i := fun e => h e.symm
    simp [h, h']

/-- Loading `n` words writes words `0..n-1` and no other (R83). -/
theorem scheduleWord_loadWords (f : Nat → Word) (n : Nat) (hn : n ≤ 60) (w : Vector Word 60) (j : Nat) :
    scheduleWord (loadWords f n w) j = if j < n then f j else scheduleWord w j := by
  induction n with
  | zero => simp [loadWords]
  | succ n ih =>
    rw [loadWords, scheduleWord_set _ _ _ _ (by omega), ih (by omega)]
    by_cases h : j = n
    · simp [h]
    · by_cases h2 : j < n
      · simp [h, h2, Nat.lt_succ_of_lt h2]
      · have h3 : ¬ j < n + 1 := by omega
        simp [h, h2, h3]

/-- The recurrence of R85 for word `j` does not look at word `j` or any after it. -/
theorem scheduleNext_set {nk i j : Nat} (hk : 0 < nk) (hj : nk ≤ j) (hi : j ≤ i) (h60 : i < 60) {w : Vector Word 60}
    {v : Word} : scheduleNext nk j (setScheduleWord w i v) = scheduleNext nk j w := by
  have e1 : ¬ j - nk = i := by omega
  have e2 : ¬ j - 1 = i := by omega
  simp only [scheduleNext, scheduleWord_set _ _ _ _ h60, e1, e2, if_false]

/-- Generating words `i..i+n-1` leaves every other word (R85). -/
theorem scheduleWord_generateWords_other (nk n i : Nat) (hn : i + n ≤ 60) (w : Vector Word 60) {j : Nat}
    (hj : j < i ∨ i + n ≤ j) : scheduleWord (generateWords nk n i w) j = scheduleWord w j := by
  induction n generalizing i w with
  | zero => rfl
  | succ n ih =>
    rw [generateWords, ih (i + 1) (by omega) _ (by omega), scheduleWord_set _ _ _ _ (by omega)]
    have h : ¬ j = i := by omega
    simp [h]

/-- Each generated word satisfies the recurrence of R85 in the finished file. -/
theorem scheduleWord_generateWords (nk n i : Nat) (hk : 0 < nk) (hi : nk ≤ i) (hn : i + n ≤ 60) (w : Vector Word 60)
    {j : Nat} (hj : i ≤ j ∧ j < i + n) :
    scheduleWord (generateWords nk n i w) j = scheduleNext nk j (generateWords nk n i w) := by
  induction n generalizing i w with
  | zero => omega
  | succ n ih =>
    rw [generateWords]
    by_cases h : j = i
    · subst h
      generalize hv : scheduleNext nk j w = v
      have e : ∀ k, k < j + 1 → scheduleWord (generateWords nk n (j + 1) (setScheduleWord w j v)) k =
          scheduleWord (setScheduleWord w j v) k := fun k hk' =>
        scheduleWord_generateWords_other nk n (j + 1) (by omega) _ (.inl hk')
      have h1 : ¬ (j - nk = j) := by omega
      have h2 : ¬ (j - 1 = j) := by omega
      rw [e j (by omega), scheduleWord_set _ _ _ _ (by omega)]
      unfold scheduleNext at hv ⊢
      rw [e (j - nk) (by omega), e (j - 1) (by omega), scheduleWord_set _ _ _ _ (by omega),
        scheduleWord_set _ _ _ _ (by omega)]
      simp [h1, h2, hv]
    · exact ih (i + 1) (by omega) (by omega) _ (by omega)

/-- The sizes of R6, for each key size. -/
theorem keyWords_pos (ks : KeySize) : 0 < keyWords ks ∧ keyWords ks ≤ scheduleWords ks ∧ scheduleWords ks ≤ 60 := by
  cases ks <;> decide

/-- What key expansion leaves in W (R86): the key words, the recurrence, and every other word as it was. -/
theorem expandKey_w (s : State) :
    (∀ i, i < keyWords s.ks → scheduleWord s.expandKey.w i = s.keyWord i) ∧
      (∀ i, keyWords s.ks ≤ i → i < scheduleWords s.ks →
        scheduleWord s.expandKey.w i = scheduleNext (keyWords s.ks) i s.expandKey.w) ∧
      (∀ i, scheduleWords s.ks ≤ i → scheduleWord s.expandKey.w i = scheduleWord s.w i) := by
  obtain ⟨hp, hk, h60⟩ := keyWords_pos s.ks
  have hw : s.expandKey.w = generateWords (keyWords s.ks) (scheduleWords s.ks - keyWords s.ks) (keyWords s.ks)
      (loadWords s.keyWord (keyWords s.ks) s.w) := rfl
  refine ⟨fun i hi => ?_, fun i h1 h2 => ?_, fun i hi => ?_⟩
  · rw [hw, scheduleWord_generateWords_other _ _ _ (by omega) _ (.inl hi),
      scheduleWord_loadWords _ _ (by omega)]
    simp [hi]
  · rw [hw]
    exact scheduleWord_generateWords _ _ _ hp (Nat.le_refl _) (by omega) _ ⟨h1, by omega⟩
  · rw [hw, scheduleWord_generateWords_other _ _ _ (by omega) _ (.inr (by omega)),
      scheduleWord_loadWords _ _ (by omega)]
    have : ¬ i < keyWords s.ks := by omega
    simp [this]

/-- Key expansion writes W, NR and KVALID only (R86). -/
theorem expandKey_eq (s : State) :
    s.expandKey = { s with w := s.expandKey.w, nr := roundsOf s.ks, kvalid := true } := rfl

end Sys2Proof.Machine
end

