-- ==== Sys2Proof/Laws/Plan.lean ====
section
/-! SUPPORT. The lists of micro-operations against the schedule invariant: every list generates words in order, and what each
micro-operation does to a schedule in progress. -/

namespace Sys2Proof.Machine

/-! ## Every list keeps the schedule -/

@[simp] theorem planKeeps_nil (ks : KeySize) (known : Option Nat) : planKeepsSchedule ks known [] = true := rfl

theorem planKeeps_cons {ks : KeySize} {known : Option Nat} {u : MicroOp} {plan : List MicroOp} :
    planKeepsSchedule ks known (u :: plan) = true ↔
      ∃ known', scheduleProgress ks known u = some known' ∧ planKeepsSchedule ks known' plan = true := by
  simp only [planKeepsSchedule]
  split <;> simp_all

/-- Micro-operations that are no part of a key expansion can stand in front of a list. -/
theorem planKeeps_append {ks : KeySize} {p q : List MicroOp} (hp : ∀ u ∈ p, scheduleProgress ks none u = some none) :
    planKeepsSchedule ks none (p ++ q) = planKeepsSchedule ks none q := by
  induction p with
  | nil => rfl
  | cons u p ih =>
    rw [List.cons_append, planKeepsSchedule, hp u (by simp)]
    exact ih fun v hv => hp v (by simp [hv])

/-- So can a whole key phase. -/
theorem planKeeps_keyPhase (ks : KeySize) (q : List MicroOp) :
    planKeepsSchedule ks none (keyPhase ks ++ q) = planKeepsSchedule ks none q := by cases ks <;> rfl

/-- The lists of R123 hold no part of a key expansion. -/
theorem encryptMiddle_progress {ks : KeySize} {n : Nat} {u : MicroOp} (h : u ∈ encryptMiddle n) :
    scheduleProgress ks none u = some none := by
  induction n with
  | zero => simp [encryptMiddle] at h
  | succ n ih =>
    simp only [encryptMiddle, List.mem_append, List.mem_cons, List.not_mem_nil, or_false] at h
    rcases h with h | rfl | rfl | rfl | rfl
    · exact ih h
    all_goals rfl

theorem decryptMiddle_progress {ks : KeySize} {n : Nat} {u : MicroOp} (h : u ∈ decryptMiddle n) :
    scheduleProgress ks none u = some none := by
  induction n with
  | zero => simp [decryptMiddle] at h
  | succ n ih =>
    simp only [decryptMiddle, List.mem_append, List.mem_cons, List.not_mem_nil, or_false] at h
    rcases h with (rfl | rfl | rfl | rfl) | h
    all_goals first | rfl | exact ih h

theorem ciphEUops_progress {ks : KeySize} {nr : Nat} {u : MicroOp} (h : u ∈ ciphEUops nr) :
    scheduleProgress ks none u = some none := by
  simp only [ciphEUops, List.flatten_cons, List.flatten_nil, List.append_nil, List.mem_append, List.mem_cons,
    List.not_mem_nil, or_false] at h
  rcases h with rfl | h | rfl | rfl | rfl
  all_goals first | rfl | exact encryptMiddle_progress h

theorem ciphDUops_progress {ks : KeySize} {nr : Nat} {u : MicroOp} (h : u ∈ ciphDUops nr) :
    scheduleProgress ks none u = some none := by
  simp only [ciphDUops, List.flatten_cons, List.flatten_nil, List.append_nil, List.mem_append, List.mem_cons,
    List.not_mem_nil, or_false] at h
  rcases h with rfl | h | rfl | rfl | rfl
  all_goals first | rfl | exact decryptMiddle_progress h

/-- The block loop of R167 holds none either. -/
theorem blockUops_progress {ks : KeySize} {cipher : List MicroOp}
    (hc : ∀ u ∈ cipher, scheduleProgress ks none u = some none) {n b : Nat} {u : MicroOp} (h : u ∈ blockUops cipher n b) :
    scheduleProgress ks none u = some none := by
  induction n generalizing b with
  | zero => simp [blockUops] at h
  | succ n ih =>
    simp only [blockUops, List.flatten_cons, List.flatten_nil, List.append_nil, List.mem_append, List.mem_cons,
      List.not_mem_nil, or_false] at h
    rcases h with (rfl | rfl) | h | rfl | h
    · rfl
    · rfl
    · exact hc u h
    · rfl
    · exact ih h

/-- The list fixed at acceptance generates words in ascending order and latches only a complete schedule, for every command
(R87, R123, R147, R167). -/
theorem planKeeps_uops (i : Instr) (s : State) : planKeepsSchedule s.ks none (uops i s) = true := by
  cases i
  case kexp => cases h : s.ks <;> simp only [uops, h] <;> rfl
  case ciphE =>
    have := planKeeps_append (q := []) fun u (hu : u ∈ ciphEUops s.nr.toNat) => ciphEUops_progress (ks := s.ks) hu
    simpa [uops] using this
  case ciphD =>
    have := planKeeps_append (q := []) fun u (hu : u ∈ ciphDUops s.nr.toNat) => ciphDUops_progress (ks := s.ks) hu
    simpa [uops] using this
  case runE =>
    simp only [uops, runEUops, List.flatten_cons, List.flatten_nil, List.append_nil]
    rw [planKeeps_append (p := [.preE]) (by simp [scheduleProgress]), planKeeps_keyPhase,
      planKeeps_append (p := [.frmE]) (by simp [scheduleProgress]),
      planKeeps_append fun u hu => blockUops_progress (fun v hv => ciphEUops_progress hv) hu]
    rfl
  case runD =>
    simp only [uops, runDUops, List.flatten_cons, List.flatten_nil, List.append_nil]
    rw [planKeeps_append (p := [.preD]) (by simp [scheduleProgress]), planKeeps_keyPhase,
      planKeeps_append fun u hu => blockUops_progress (fun v hv => ciphDUops_progress hv) hu]
    rfl
  all_goals rfl

/-! ## What a micro-operation does to the schedule -/

theorem memWrite_schedule (s : State) (b : Buffer) (a : Nat) (vs : List Byte) :
    (s.memWrite b a vs).w = s.w ∧ (s.memWrite b a vs).nr = s.nr ∧ (s.memWrite b a vs).kvalid = s.kvalid := by
  cases b <;> exact ⟨rfl, rfl, rfl⟩

/-- No micro-operation writes CFG.KS. -/
@[simp] theorem microEffect_ks (u : MicroOp) (s : State) : (microEffect u s).state.ks = s.ks := by
  rw [microEffect_frame u s]

/-- Only KLD, KGEN and KFIN touch W and NR; besides them only a failed key check touches KVALID, by clearing it. -/
theorem microEffect_schedule_frame (u : MicroOp) (s : State) (hk : u ≠ .kld) (hg : ∀ i, u ≠ .kgen i) (hf : u ≠ .kfin) :
    (microEffect u s).state.w = s.w ∧ (microEffect u s).state.nr = s.nr ∧
      ((microEffect u s).state.kvalid = s.kvalid ∨ (microEffect u s).state.kvalid = false) := by
  cases u
  case kld => exact absurd rfl hk
  case kgen i => exact absurd rfl (hg i)
  case kfin => exact absurd rfl hf
  case sts =>
    obtain ⟨h1, h2, h3⟩ := memWrite_schedule s .obuf (16 * s.bidx.toNat) (blockBytes s.S)
    simp only [microEffect, stsEffect]
    split
    · exact ⟨rfl, rfl, .inl rfl⟩
    · exact ⟨h1, h2, .inl h3⟩
  case frmE =>
    simp only [microEffect, frmEEffect]
    split <;> exact ⟨rfl, rfl, .inl rfl⟩
  all_goals
    simp only [microEffect, keyCheckEffect, ldsEffect, transformEffect, arkEffect, frmDEffect, preflightE, preflightD,
      State.setBidx, State.finishBlocks]
    (repeat' split) <;> first | exact ⟨rfl, rfl, .inl rfl⟩ | exact ⟨rfl, rfl, .inr rfl⟩

/-- A state with the same W and NR, whose KVALID is as it was or cleared, keeps the schedule and its progress. -/
theorem schedule_of_frame {s t : State} {known : Option Nat} (hs : s.scheduleOk) (hp : s.progressHolds known)
    (hk : t.ks = s.ks) (h : t.w = s.w ∧ t.nr = s.nr ∧ (t.kvalid = s.kvalid ∨ t.kvalid = false)) :
    t.scheduleOk ∧ t.progressHolds known := by
  obtain ⟨h1, h2, h3⟩ := h
  refine ⟨fun h => ?_, fun i hi => ⟨h3.elim (fun e => e.trans (hp i hi).1) id, ?_⟩⟩
  · rw [State.scheduleHolds, h1, h2]
    exact hs (h3.elim (fun e => e ▸ h) fun e => absurd (e.symm.trans h) nofun)
  · rw [h1, hk]
    exact (hp i hi).2

/-- What a micro-operation does to the schedule: one that fits the progress of a key expansion keeps the schedule invariant and
takes the progress on (R83, R85, R87). -/
theorem microEffect_keeps_schedule {u : MicroOp} {s : State} {known known' : Option Nat} (hs : s.scheduleOk)
    (hp : s.progressHolds known) (hu : scheduleProgress s.ks known u = some known') :
    (microEffect u s).state.scheduleOk ∧ (microEffect u s).state.progressHolds known' := by
  have hn := keyWords_pos s.ks
  cases u
  case kld =>
    cases hu
    refine ⟨fun h => absurd h nofun, fun i hi => ⟨rfl, fun j h1 h2 => ?_⟩⟩
    cases hi
    exact absurd h2 (Nat.not_lt.2 h1)
  case kgen i =>
    simp only [scheduleProgress] at hu
    split at hu
    · next hi =>
      cases hu
      obtain ⟨hv, hw⟩ := hp i hi.1
      refine ⟨fun h => absurd (hv.symm.trans h) nofun, fun k hk => ⟨hv, fun j h1 h2 => ?_⟩⟩
      cases hk
      simp only [microEffect, Effect.state, State.generateWord] at h1 ⊢
      rw [scheduleWord_set _ _ _ _ (by omega), scheduleNext_set hn.1 h1 (by omega) (by omega)]
      split
      · next e => rw [e]
      · next e => exact hw j h1 (by omega)
    · exact nomatch hu
  case kfin =>
    simp only [scheduleProgress] at hu
    split at hu
    · next hi =>
      cases hu
      obtain ⟨_, hw⟩ := hp _ hi
      refine ⟨fun _ => ?_, fun k hk => nomatch hk⟩
      simp only [microEffect, Effect.state, State.latchSchedule, State.scheduleHolds]
      generalize s.ks = ks at hw
      cases ks
      · exact ⟨.inl rfl, hw⟩
      · exact ⟨.inr rfl, hw⟩
    · exact nomatch hu
  all_goals
    cases hu
    exact schedule_of_frame hs hp (microEffect_ks _ s) (microEffect_schedule_frame _ s nofun nofun nofun)

end Sys2Proof.Machine
end

