-- ==== Sys2Proof/Laws/Step.lean ====
section
/-! SUPPORT. What one step can do: the inversion of `step` by the host's next act. -/

namespace Sys2Proof.Machine

/-- With nothing for the host to do, the engine goes on alone. -/
theorem step_nil {s : State} (h : s.host = []) : step s = .next s.engineTurn := by simp [step, h]

/-- Otherwise the host's next act is taken. -/
theorem step_cons {s : State} {op : HostOp} {rest : List HostOp} (h : s.host = op :: rest) :
    step s = hostAct op { s with host := rest } := by simp [step, h]

/-- A 32-bit access that is let through. -/
theorem access32_next {s go t : State} {win : Window} {off : Nat} (h : s.access32 win off go = .next t) :
    off % 4 = 0 ∧ off + 4 ≤ s.windowSize win ∧ t = go := by
  unfold State.access32 at h
  split at h
  · exact nomatch h
  · split at h
    · exact nomatch h
    · next h1 h2 =>
      cases h
      exact ⟨by omega, by omega, rfl⟩

/-- A byte access that is let through. -/
theorem access8_next {s go t : State} {win : Window} {off : Nat} (h : s.access8 win off go = .next t) :
    off < s.windowSize win ∧ (win = .regs → 0x024 ≤ off) ∧ t = go := by
  unfold State.access8 at h
  split at h
  · exact nomatch h
  · split at h
    · exact nomatch h
    · next h1 h2 =>
      cases h
      exact ⟨by omega, fun hw => by have := mt (fun hl => And.intro hw hl) h2; omega, rfl⟩

/-- What a read can do (R28): FC_BUSY with no answer, or the answer alone. -/
theorem hostRead_cases (s : State) (allowed : Bool) (v : BitVec 32) :
    (s.busy = true ∧ allowed = false ∧ s.hostRead allowed v = { s.enterFatal .busyAccess with rdata := none }) ∨
      s.hostRead allowed v = { s with rdata := some v } := by
  unfold State.hostRead
  split
  · next h =>
    simp only [Bool.and_eq_true, Bool.not_eq_true'] at h
    exact .inl ⟨h.1, h.2, rfl⟩
  · exact .inr rfl

/-- What a write can do (R28): FC_BUSY while BUSY, nothing while FATAL, its own effect on a ready engine. -/
theorem hostWrite_cases (s : State) (go : State → State) :
    (s.busy = true ∧ s.hostWrite go = s.enterFatal .busyAccess) ∨
      (s.busy = false ∧ s.fatal = true ∧ s.hostWrite go = s) ∨
        (s.busy = false ∧ s.fatal = false ∧ s.hostWrite go = go s) := by
  unfold State.hostWrite
  cases hb : s.busy <;> cases hf : s.fatal <;> simp

/-- What a command line can do (R21, R28): FC_BUSY while BUSY, nothing while FATAL, else the command or FC_ILLCMD. -/
theorem command_cases (s : State) (v : BitVec 32) :
    (s.busy = true ∧ s.command v = .next (s.enterFatal .busyAccess)) ∨
      (s.busy = false ∧ s.fatal = true ∧ s.command v = .next s) ∨
        (s.busy = false ∧ s.fatal = false ∧ ∃ i, decode v = .legal i ∧ s.command v = exec i s) ∨
          (s.busy = false ∧ s.fatal = false ∧ ∃ why, decode v = .illegal why ∧
            s.command v = .next (s.enterFatal .illegalCommand)) := by
  unfold State.command
  cases hb : s.busy <;> cases hf : s.fatal <;> cases hd : decode v <;> simp

/-- One step of a busy engine is one of the four endings, or goes on. -/
theorem engineStep_cases (s : State) :
    engineStep s = s.finish 0 ∨
      ∃ u, s.plan[s.mi]? = some u ∧
        ((∃ t, microEffect u s = .ok t ∧ engineStep s = t.advance) ∨
          ((∀ t, microEffect u s ≠ .ok t) ∧ engineStep s = (microEffect u s).settle)) := by
  unfold engineStep
  cases hu : s.plan[s.mi]? with
  | none => exact .inl rfl
  | some u =>
    refine .inr ⟨u, rfl, ?_⟩
    cases he : microEffect u s with
    | ok t => exact .inl ⟨t, rfl, by simp [he]⟩
    | notice t => exact .inr ⟨fun t' => by simp, by simp [he]⟩
    | error t b => exact .inr ⟨fun t' => by simp, by simp [he]⟩
    | fatal t c => exact .inr ⟨fun t' => by simp, by simp [he]⟩

end Sys2Proof.Machine
end

