-- ==== Sys2Proof/Laws/Tables.lean ====
section
/-! SUPPORT. The tables against the formulas of R30, and the algebra that the inverse transforms rest on (R36). -/

namespace Sys2Proof.Machine

theorem sboxInv_sbox : ∀ b, sboxInv (sbox b) = b := by decide +kernel

theorem sbox_sboxInv : ∀ b, sbox (sboxInv b) = b := by decide +kernel

theorem mul2_eq : ∀ b, mul2 b = gfMul 2 b := by decide +kernel

theorem mul3_eq : ∀ b, mul3 b = gfMul 3 b := by decide +kernel

theorem mul9_eq : ∀ b, mul9 b = gfMul 9 b := by decide +kernel

theorem mul11_eq : ∀ b, mul11 b = gfMul 11 b := by decide +kernel

theorem mul13_eq : ∀ b, mul13 b = gfMul 13 b := by decide +kernel

theorem mul14_eq : ∀ b, mul14 b = gfMul 14 b := by decide +kernel

/-- Multiplication by x is linear (R36 (d)). -/
theorem xtime_xor (a b : Byte) : xtime (a ^^^ b) = xtime a ^^^ xtime b := by
  have key : ∀ p q : Bool, (if (p ^^ q) then 0x1b#8 else 0x00#8) =
      (if p then 0x1b#8 else 0x00#8) ^^^ (if q then 0x1b#8 else 0x00#8) := by decide
  have assoc : ∀ w x y z : Byte, (w ^^^ x) ^^^ (y ^^^ z) = (w ^^^ y) ^^^ (x ^^^ z) := by
    intro w x y z
    ac_rfl
  simp only [xtime, BitVec.getLsbD_xor, key, BitVec.shiftLeft_xor_distrib]
  exact assoc _ _ _ _

/-- The products of R30 are linear (R36 (d)). -/
theorem gfMul_xor (k : BitVec 4) (a b : Byte) : gfMul k (a ^^^ b) = gfMul k a ^^^ gfMul k b := by
  have key : ∀ (p : Bool) (x y : Byte), (if p then x ^^^ y else 0) = (if p then x else 0) ^^^ (if p then y else 0) := by
    intro p x y
    cases p <;> simp
  simp only [gfMul, xtime_xor, key]
  ac_rfl

end Sys2Proof.Machine
end

