-- ==== Sys2Proof/Tests/Slice0.lean ====
section
/-! SUPPORT. Tests: small facts about one step whose expected values are the spec's own examples and vectors, and, for every
obligation with hypotheses, a concrete state and operands that meet them. -/

namespace Sys2Proof.Tests

open Sys2Proof.Machine

/-! ## Helpers -/

/-- A block written as the spec writes it, byte 0 leftmost. -/
def hexBlock (v : BitVec 128) : Block := blockOfBytes fun k => v.extractLsb' (8 * (15 - k)) 8

/-- A word written as the spec writes it, byte 0 leftmost. -/
def hexWord (v : BitVec 32) : Word := wordOf fun k => v.extractLsb' (8 * (3 - k.val)) 8

/-- The bytes of a string of `n` bytes written with byte 0 leftmost. -/
def hexBytes (n : Nat) (v : BitVec 256) : List Byte := (List.range n).map fun k => v.extractLsb' (8 * (n - 1 - k)) 8

/-- The state a command leaves. -/
def after (i : Instr) (s : State) : State :=
  match exec i s with
  | .next t => t
  | _ => s

/-- The state a step leaves. -/
def afterStep (s : State) : State :=
  match step s with
  | .next t => t
  | _ => s

/-- Reset, with a key presented (R212). -/
def withKey (ks : KeySize) (n : Nat) (v : BitVec 256) : State :=
  { (List.range n).foldl (fun s j => s.setKeyByte j ((hexBytes n v).getD j 0)) State.reset with
    ks := ks, klen := BitVec.ofNat 6 n }

/-- Reset, with bytes in IBUF and ILEN set. -/
def withInput (n : Nat) (bytes : List Byte) : State := { State.reset with ibuf := Memory.storeList [] 0 bytes, ilen := n }

/-- Reset, with bytes in OBUF and OLEN set. -/
def withOutput (n : Nat) (bytes : List Byte) : State := { State.reset with obuf := Memory.storeList [] 0 bytes, olen := n }

/-- Reset, with a schedule held valid. -/
def keyed : State := { State.reset with kvalid := true, nr := 10 }

/-- Reset, with the zero 128-bit key presented. -/
def zeroKey : State := { State.reset with klen := 16 }

/-- Reset, with acts of the host to come. -/
def hosted (ops : List HostOp) : State := { State.reset with host := ops }

/-- A busy engine: SUB.E accepted and not yet done. -/
def busyWith (ops : List HostOp) : State :=
  { State.reset with cur := some 0x4000, plan := [.subE], host := ops }

/-- An engine in the FATAL state. -/
def fatalWith (ops : List HostOp) : State := { State.reset with fatal := true, fcause := 3, host := ops }

/-- The bytes 00 to 0f, R101's example. -/
def countingBlock : Block := hexBlock 0x000102030405060708090a0b0c0d0e0f#128

/-! ## Well-formedness -/

theorem test_wf_ark_16_refused : (Instr.ark 16).wellFormed = false := by decide
theorem test_wf_ark_15 : (Instr.ark 15).wellFormed = true := by decide
theorem test_ill_formed_does_not_round_trip : decode (cmdValue (encode (.ark 16))) ≠ .legal (.ark 16) := by decide

/-! ## Decoding: words written out bit by bit from format C (R61) and the opcode map (R63): OP, D, Z, R -/

theorem test_decode_kexp : decode 0b0001000000000000#32 = .legal .kexp := by decide
theorem test_decode_lds : decode 0b0010000000000000#32 = .legal .lds := by decide
theorem test_decode_sts : decode 0b0011000000000000#32 = .legal .sts := by decide
theorem test_decode_subE : decode 0b0100000000000000#32 = .legal .subE := by decide
theorem test_decode_subD : decode 0b0100100000000000#32 = .legal .subD := by decide
theorem test_decode_shrE : decode 0b0101000000000000#32 = .legal .shrE := by decide
theorem test_decode_shrD : decode 0b0101100000000000#32 = .legal .shrD := by decide
theorem test_decode_mixE : decode 0b0110000000000000#32 = .legal .mixE := by decide
theorem test_decode_mixD : decode 0b0110100000000000#32 = .legal .mixD := by decide
theorem test_decode_ark_13 : decode 0b0111000000001101#32 = .legal (.ark 13) := by decide
theorem test_decode_ark_d_ignored : decode 0b0111100000000110#32 = .legal (.ark 6) := by decide
theorem test_decode_ciphE : decode 0b1000000000000000#32 = .legal .ciphE := by decide
theorem test_decode_ciphD : decode 0b1000100000000000#32 = .legal .ciphD := by decide
theorem test_decode_frmE : decode 0b1001000000000000#32 = .legal .frmE := by decide
theorem test_decode_frmD : decode 0b1001100000000000#32 = .legal .frmD := by decide
theorem test_decode_runE : decode 0b1010000000000000#32 = .legal .runE := by decide
theorem test_decode_runD : decode 0b1010100000000000#32 = .legal .runD := by decide

theorem test_illegal_high_bits : decode 0x00011000#32 = .illegal .highBitsSet := by decide
theorem test_illegal_zero_word : decode 0x0000#32 = .illegal .reservedOpcode := by decide
theorem test_illegal_opcode_b : decode 0xB000#32 = .illegal .reservedOpcode := by decide
theorem test_illegal_z : decode 0x7010#32 = .illegal .zFieldNonzero := by decide
theorem test_illegal_kexp_d : decode 0x1800#32 = .illegal .noDecryptForm := by decide
theorem test_illegal_sub_r : decode 0x4001#32 = .illegal .roundFieldNonzero := by decide

/-- `decodeTableWord` reads the table's numbering, and refuses what the decoder refuses. -/
theorem test_decode_table_word :
    decodeTableWord 16 0x7803 = some (.ark 3) ∧ decodeTableWord 16 0xA800 = some .runD ∧
      decodeTableWord 16 0x1800 = none := by decide

/-! ## Key expansion -/

/-- R90: the three branches for a 256-bit key. -/
theorem test_kexp_branches :
    let t := after .kexp (withKey .k256 32 0x603deb1015ca71be2b73aef0857d77811f352c073b6108d72d9810a30914dff4)
    scheduleWord t.w 8 = hexWord 0x9ba35411 ∧ scheduleWord t.w 9 = hexWord 0x8e6925af ∧
      scheduleWord t.w 12 = hexWord 0xa8b09c1a ∧ scheduleWord t.w 16 = hexWord 0xd59aecb8 ∧ t.nr = 14 := by
  decide +kernel

/-- K1 of 95_test_vectors.md: the last word and STATUS after a 128-bit expansion. -/
theorem test_kexp_zero_key :
    let t := after .kexp zeroKey
    scheduleWord t.w 43 = hexWord 0x6f8f188e ∧ t.statusWord = 0xA6 := by decide +kernel

/-! ## Round transforms: the worked examples of R101 to R109 -/

theorem test_lds_example : (after .lds (withInput 16 (blockBytes countingBlock))).S = countingBlock := by decide

/-- `16*BIDX` does not wrap (R101). -/
theorem test_lds_no_wrap :
    (after .lds { withInput 16 (blockBytes countingBlock) with bidx := 0x10000000 }).fcause = 5 := by decide

theorem test_sts_example :
    let t := after .sts { State.reset with S := countingBlock, bidx := 2 }
    t.obuf = (List.range 16).map (fun k => (32 + k, BitVec.ofNat 8 k)) ∧ t.olen = 0 := by decide

/-- BUFCAP = 64 holds blocks 0 to 3 only (R102). -/
theorem test_sts_range : (after .sts { State.reset with bidx := 4 }).fcause = 5 := by decide

theorem test_subE_example :
    (after .subE { State.reset with S := countingBlock }).S = hexBlock 0x637c777bf26b6fc53001672bfed7ab76 := by
  decide

theorem test_subD_example :
    (after .subD { State.reset with S := hexBlock 0x637c777bf26b6fc53001672bfed7ab76 }).S = countingBlock := by
  decide

theorem test_shrE_example :
    (after .shrE { State.reset with S := countingBlock }).S = hexBlock 0x00050a0f04090e03080d02070c01060b := by
  decide

theorem test_shrD_example :
    (after .shrD { State.reset with S := countingBlock }).S = hexBlock 0x000d0a0704010e0b0805020f0c090603 := by
  decide

theorem test_mixE_example :
    (after .mixE { State.reset with S := hexBlock 0xd4bf5d30e0b452aeb84111f11e2798e5 }).S =
      hexBlock 0x046681e5e0cb199a48f8d37a2806264c := by decide

theorem test_mixD_example :
    (after .mixD { State.reset with S := hexBlock 0x046681e5e0cb199a48f8d37a2806264c }).S =
      hexBlock 0xd4bf5d30e0b452aeb84111f11e2798e5 := by decide

theorem test_ark_example :
    let w := loadWords (fun i => ([0x2b7e1516, 0x28aed2a6, 0xabf71588, 0x09cf4f3c].map hexWord).getD i Word.zero) 4 keyed.w
    (after (.ark 0) { keyed with w := w, S := hexBlock 0x3243f6a8885a308d313198a2e0370734 }).S =
      hexBlock 0x193de3bea0f4e22b9ac68d2ae9f84808 := by decide

theorem test_ark_round_check : (after (.ark 11) keyed).fcause = 4 ∧ (after (.ark 10) keyed).done = true := by
  decide

/-! ## The block cipher: V1 -/

theorem test_ciphE_zero_key :
    (after .ciphE (after .kexp zeroKey)).S = hexBlock 0x66e94bd4ef8a2c3b884cfa59ca342b2e := by decide +kernel

theorem test_ciphD_zero_key :
    (after .ciphD { after .kexp zeroKey with S := hexBlock 0x66e94bd4ef8a2c3b884cfa59ca342b2e }).S = Block.zero := by
  decide +kernel

/-! ## The framer: the worked examples of R141 and R144 -/

theorem test_frmE_example :
    let t := after .frmE (withInput 3 [0x41, 0x42, 0x43])
    (List.range 16).map (t.readBuffer .ibuf) = hexBytes 16 0x4142430d0d0d0d0d0d0d0d0d0d0d0d0d ∧ t.ilen = 16 := by
  decide

theorem test_frmE_full_buffer : (after .frmE (withInput 64 [])).fcause = 5 := by decide

theorem test_frmD_example :
    let t := after .frmD (withOutput 16 (hexBytes 16 0x4142430d0d0d0d0d0d0d0d0d0d0d0d0d))
    t.olen = 3 ∧ t.err = 0 ∧ t.done = true := by decide

/-- The tail `.. 02 03 03` is invalid: nothing is stripped (R144). -/
theorem test_frmD_invalid :
    let t := after .frmD (withOutput 16 (hexBytes 16 0x41424344454647484950515253020303))
    t.olen = 16 ∧ t.err = 8 ∧ t.done = true := by decide

/-! ## The stream: S1 -/

theorem test_runE_empty_input :
    let t := after .runE zeroKey
    (List.range 16).map (t.readBuffer .obuf) = hexBytes 16 0x0143db63ee66b0cdff9f69917680151e ∧ t.olen = 16 ∧
      t.bidx = 1 := by decide +kernel

theorem test_runD_empty_output :
    let t := after .runD { withInput 16 (hexBytes 16 0x0143db63ee66b0cdff9f69917680151e) with klen := 16 }
    (List.range 16).map (t.readBuffer .obuf) = List.replicate 16 0x10#8 ∧ t.olen = 0 ∧ t.err = 0 := by decide +kernel

/-! ## Steps and the bus -/

/-- The very next step runs the placed word; KEXP just after reset reports IKS and IKB (R211). -/
theorem test_step_runs_placed_word :
    (afterStep (State.reset.withFetchWord 16 0x1000)).err = 3 ∧ (afterStep (State.reset.withFetchWord 16 0x7005)).fcause = 3 := by
  decide

/-- A bare write to CMD makes the engine busy; one more step performs the one micro-operation (R25, R185). -/
theorem test_issue_then_pass :
    let s := afterStep (hosted [.write32 .regs 0x000 0x4000, .pass])
    s.busy = true ∧ (afterStep s).busy = false ∧ (afterStep s).S = hexBlock 0x63636363636363636363636363636363 := by
  decide

/-- FC_BUSY: a read of ERR while BUSY = 1 is fatal, a read of STATUS is not (R28 (c)). -/
theorem test_busy_reads :
    (afterStep (busyWith [.read32 .regs 0x008])).fcause = 2 ∧
      (afterStep (busyWith [.read32 .regs 0x004])).rdata = some 1 := by decide

/-- A 32-bit write of KEY is little-endian (R41). -/
theorem test_write_word_little_endian :
    let t := afterStep (hosted [.write32 .regs 0x044 0x04030201])
    t.keyByte 4 = 1 ∧ t.keyByte 7 = 4 ∧ t.keyByte 8 = 0 := by decide

/-- `RC[1] = 1` and `RC[j] = xtime(RC[j-1])` up to 14 (R33). -/
theorem test_rc_doubles : rc 1 = 0x01 ∧ ∀ j : Fin 13, rc (j.val + 2) = xtime (rc (j.val + 1)) := by decide

/-! ## Witnesses: for every obligation with hypotheses, states and operands that meet them together -/

/-- Every command answers a next state, so each `exec i s = .next t` can be met. -/
theorem test_exec_answers (i : Instr) (s : State) : exec i s = .next (after i s) := by simp [after, exec_eq]

theorem test_witness_decode_of_encode : (Instr.ark 15).wellFormed = true ∧ (Instr.ark 0).wellFormed = true := by decide

theorem test_witness_illegal_words :
    (hosted [.cmd 0]).ready = true ∧ decode 0 = .illegal .reservedOpcode ∧ (hosted [.cmd 0]).host = [.cmd 0] ∧
      (hosted [.write32 .regs 0x000 0x10000]).ready = true ∧ decode 0x10000 = .illegal .highBitsSet ∧
        (hosted [.write32 .regs 0x000 0x10000]).host = [.write32 .regs 0x000 0x10000] := by decide

theorem test_witness_step_runs :
    (hosted [.cmd 0x700F]).ready = true ∧ (hosted [.cmd 0x700F]).host = [.cmd 0x700F] ∧
      decode 0x700F = .legal (.ark 15) ∧ State.reset.ready = true ∧ decodeTableWord 16 0xA800 = some .runD := by decide

theorem test_witness_cmd_write_is_accepted :
    (hosted [.write32 .regs 0x000 0x4000]).ready = true ∧ decode 0x4000 = .legal .subE ∧
      (hosted [.write32 .regs 0x000 0x4000]).host = [.write32 .regs 0x000 0x4000] ∧
        (busyWith [.pass]).busy = true ∧ (busyWith [.pass]).host = [.pass] := by decide

theorem test_witness_reset_event :
    (busyWith [.reset]).host = [.reset] ∧ (fatalWith [.reset]).host = [.reset] := by decide

theorem test_witness_every_step :
    State.reset.Inv = true ∧ (busyWith [.pass]).Inv = true ∧ (fatalWith [.cmd 0x1000]).Inv = true ∧ keyed.Inv = true ∧
      (∃ t, step State.reset = .next t) ∧ (∃ t, step (busyWith [.pass]) = .next t) :=
  ⟨by decide, by decide, by decide, by decide, ⟨_, rfl⟩, ⟨_, rfl⟩⟩

/-- The schedule recurrence holds at reset, and with KVALID = 1 after KEXP. -/
theorem test_witness_schedule :
    State.reset.busy = false ∧ State.reset.scheduleOk ∧ (∃ t, step State.reset = .next t) ∧
      (after .kexp zeroKey).busy = false ∧ (after .kexp zeroKey).kvalid = true ∧ (after .kexp zeroKey).nr = 10 ∧
        ∀ i, i < 44 → nkOfRounds (after .kexp zeroKey).nr ≤ i →
          scheduleWord (after .kexp zeroKey).w i =
            scheduleNext (nkOfRounds (after .kexp zeroKey).nr) i (after .kexp zeroKey).w :=
  ⟨by decide, fun h => absurd h (by decide), ⟨_, rfl⟩, by decide, by decide, by decide,
    by decide +kernel⟩

/-- KEXP of the zero key after KCHK, KLD and KGEN(4), the host about to read ERR: FC_BUSY (R87, R213). -/
def midKexp : State :=
  { engineSteps 3 (zeroKey.accept 0x1000 (uops .kexp zeroKey)) with host := [.read32 .regs 0x008] }

/-- The schedule invariant holds in the middle of a KEXP, one word generated, and a step is taken from there. -/
theorem test_witness_schedule_busy :
    midKexp.busy = true ∧ midKexp.mi = 3 ∧ scheduleWord midKexp.w 4 = hexWord 0x62636363 ∧ midKexp.scheduleInv ∧
      ∃ t, step midKexp = .next t :=
  ⟨by decide, by decide, by decide, ⟨fun h => absurd h (by decide), fun _ => ⟨some 5, by decide, fun i hi => by
    cases hi
    refine ⟨by decide, fun j h1 h2 => ?_⟩
    have hj : j = 4 := Nat.le_antisymm (Nat.le_of_lt_succ h2) h1
    subst hj
    decide⟩⟩, ⟨_, rfl⟩⟩

theorem test_witness_fatal_ignores :
    (fatalWith [.cmd 0x1000]).fatal = true ∧ (fatalWith [.cmd 0x1000]).busy = false ∧
      (∀ rest, (fatalWith [.cmd 0x1000]).host ≠ .reset :: rest) ∧ ∃ t, step (fatalWith [.cmd 0x1000]) = .next t :=
  ⟨by decide, by decide, fun rest => by simp [fatalWith], ⟨_, rfl⟩⟩

theorem test_witness_fatal_reads :
    (fatalWith [.read32 .obuf 60]).fatal = true ∧ (fatalWith [.read32 .obuf 60]).busy = false ∧
      (fatalWith [.read32 .obuf 60]).host = [.read32 .obuf 60] ∧ 60 % 4 = 0 ∧
        60 + 4 ≤ (fatalWith [.read32 .obuf 60]).windowSize .obuf ∧
          (fatalWith [.read8 .regs 0x024]).host = [.read8 .regs 0x024] ∧
            0x024 < (fatalWith [.read8 .regs 0x024]).windowSize .regs := by decide

theorem test_witness_busy_access :
    (busyWith [.cmd 0x1000]).busy = true ∧ (busyWith [.cmd 0x1000]).host = [.cmd 0x1000] ∧
      (busyWith [.write32 .ibuf 60 1]).host = [.write32 .ibuf 60 1] ∧
        60 + 4 ≤ (busyWith [.write32 .ibuf 60 1]).windowSize .ibuf ∧
      (busyWith [.write8 .regs 0x024 1]).host = [.write8 .regs 0x024 1] ∧
        0x024 < (busyWith [.write8 .regs 0x024 1]).windowSize .regs ∧
      (busyWith [.read32 .regs 0x008]).host = [.read32 .regs 0x008] ∧ 0x008 ≠ 0x004 ∧
      (busyWith [.read8 .obuf 63]).host = [.read8 .obuf 63] ∧ 63 < (busyWith [.read8 .obuf 63]).windowSize .obuf ∧
      (busyWith [.read32 .regs 0x004]).host = [.read32 .regs 0x004] := by decide

theorem test_witness_stops :
    (hosted [.write32 .regs 0x012 0]).host = [.write32 .regs 0x012 0] ∧ 0x012 % 4 ≠ 0 ∧
      (hosted [.write32 .ibuf 64 0]).host = [.write32 .ibuf 64 0] ∧ (hosted [.write32 .ibuf 64 0]).windowSize .ibuf < 64 + 4 ∧
      (hosted [.read32 .obuf 63]).host = [.read32 .obuf 63] ∧ 63 % 4 ≠ 0 ∧
      (hosted [.read32 .regs 0x1000]).host = [.read32 .regs 0x1000] ∧
        (hosted [.read32 .regs 0x1000]).windowSize .regs < 0x1000 + 4 ∧
      (hosted [.write8 .obuf 64 0]).host = [.write8 .obuf 64 0] ∧ (hosted [.write8 .obuf 64 0]).windowSize .obuf ≤ 64 ∧
      (hosted [.write8 .regs 0x023 0]).host = [.write8 .regs 0x023 0] ∧
      (hosted [.read8 .ibuf 64]).host = [.read8 .ibuf 64] ∧ (hosted [.read8 .ibuf 64]).windowSize .ibuf ≤ 64 ∧
      (hosted [.read8 .regs 0x000]).host = [.read8 .regs 0x000] := by decide

theorem test_witness_control_writes :
    (hosted [.write32 .regs 0x010 1]).ready = true ∧ (hosted [.write32 .regs 0x010 1]).host = [.write32 .regs 0x010 1] ∧
      (hosted [.write32 .regs 0x014 64]).host = [.write32 .regs 0x014 64] ∧
      (hosted [.write32 .regs 0x018 64]).host = [.write32 .regs 0x018 64] ∧ (64#32).toNat ≤ State.reset.params.bufcap ∧
      (hosted [.write32 .regs 0x01C 65]).host = [.write32 .regs 0x01C 65] ∧ State.reset.params.bufcap < (65#32).toNat ∧
      (hosted [.write32 .regs 0x020 9]).host = [.write32 .regs 0x020 9] := by decide

theorem test_witness_control_reads :
    (hosted [.read32 .regs 0x004]).busy = false ∧ (fatalWith [.read32 .regs 0x00C]).busy = false ∧
      (hosted [.read32 .regs 0x004]).host = [.read32 .regs 0x004] ∧
      (hosted [.read32 .regs 0x008]).host = [.read32 .regs 0x008] ∧
      (fatalWith [.read32 .regs 0x00C]).host = [.read32 .regs 0x00C] ∧
      (hosted [.read32 .regs 0x010]).host = [.read32 .regs 0x010] ∧
      (hosted [.read32 .regs 0x014]).host = [.read32 .regs 0x014] ∧
      (hosted [.read32 .regs 0x018]).host = [.read32 .regs 0x018] ∧
      (hosted [.read32 .regs 0x01C]).host = [.read32 .regs 0x01C] ∧
      (hosted [.read32 .regs 0x020]).host = [.read32 .regs 0x020] := by decide

theorem test_witness_reserved :
    (hosted [.write32 .regs 0x03C 1]).ready = true ∧ (hosted [.write32 .regs 0x03C 1]).host = [.write32 .regs 0x03C 1] ∧
      (hosted [.write32 .regs 0xFFC 1]).host = [.write32 .regs 0xFFC 1] ∧
      (hosted [.write32 .regs 0x004 1]).host = [.write32 .regs 0x004 1] ∧
      (hosted [.write8 .regs 0x070 1]).host = [.write8 .regs 0x070 1] ∧
      (hosted [.write8 .regs 0x03F 1]).host = [.write8 .regs 0x03F 1] ∧
      (hosted [.read32 .regs 0x000]).host = [.read32 .regs 0x000] ∧
      (hosted [.read32 .regs 0x0FC]).host = [.read32 .regs 0x0FC] ∧
      (hosted [.read32 .regs 0x1F0]).host = [.read32 .regs 0x1F0] ∧
      (hosted [.read8 .regs 0x024]).ready = true ∧ (hosted [.read8 .regs 0x024]).host = [.read8 .regs 0x024] ∧
      (hosted [.read8 .regs 0x0FF]).host = [.read8 .regs 0x0FF] ∧
      (hosted [.read8 .regs 0xFFF]).host = [.read8 .regs 0xFFF] := by decide

theorem test_witness_byte_ranges :
    (hosted [.write8 .regs (0x040 + 31) 1]).ready = true ∧
      (hosted [.write8 .regs (0x040 + 31) 1]).host = [.write8 .regs (0x040 + 31) 1] ∧
      (hosted [.write8 .regs (0x060 + (3 + 4 * 3)) 1]).host = [.write8 .regs (0x060 + (3 + 4 * 3)) 1] ∧
      (hosted [.read8 .regs (0x040 + 0)]).host = [.read8 .regs (0x040 + 0)] ∧
      (hosted [.read8 .regs (0x060 + (0 + 4 * 0))]).host = [.read8 .regs (0x060 + (0 + 4 * 0))] ∧
      (hosted [.read8 .regs (0x100 + 4 * 59 + 3)]).host = [.read8 .regs (0x100 + 4 * 59 + 3)] := by decide

theorem test_witness_buffer_windows :
    (hosted [.write8 .ibuf 63 1]).ready = true ∧ 63 < (hosted [.write8 .ibuf 63 1]).params.bufcap ∧
      (hosted [.write8 .ibuf 63 1]).host = [.write8 .ibuf 63 1] ∧ (hosted [.write8 .obuf 0 1]).host = [.write8 .obuf 0 1] ∧
      (hosted [.read8 .ibuf 0]).host = [.read8 .ibuf 0] ∧ (hosted [.read8 .obuf 63]).host = [.read8 .obuf 63] := by decide

theorem test_witness_word_view :
    0x06C % 4 = 0 ∧ ((0x040 ≤ 0x06C ∧ 0x06C < 0x070) ∨ (0x100 ≤ 0x06C ∧ 0x06C < 0x1F0)) ∧ 0x1EC % 4 = 0 ∧
      ((0x040 ≤ 0x1EC ∧ 0x1EC < 0x070) ∨ (0x100 ≤ 0x1EC ∧ 0x1EC < 0x1F0)) ∧
      (hosted [.read32 .regs 0xFFC]).busy = false ∧ 0xFFC + 4 ≤ (hosted [.read32 .regs 0xFFC]).windowSize .regs ∧
      (hosted [.read32 .regs 0xFFC]).host = [.read32 .regs 0xFFC] ∧
      60 + 4 ≤ (hosted [.read32 .obuf 60]).windowSize .obuf ∧ (hosted [.read32 .obuf 60]).host = [.read32 .obuf 60] := by
  decide

theorem test_witness_word_writes :
    (hosted [.write32 .regs 0x05C 1]).ready = true ∧ 0x05C % 4 = 0 ∧
      (hosted [.write32 .regs 0x05C 1]).host = [.write32 .regs 0x05C 1] ∧
      (hosted [.write32 .regs 0x060 1]).host = [.write32 .regs 0x060 1] ∧ 0x060 % 4 = 0 ∧
      (hosted [.write32 .regs 0x06C 1]).host = [.write32 .regs 0x06C 1] ∧ 0x06C % 4 = 0 ∧
      (hosted [.write32 .ibuf 60 1]).host = [.write32 .ibuf 60 1] ∧ 60 % 4 = 0 ∧
      60 + 4 ≤ (hosted [.write32 .ibuf 60 1]).params.bufcap ∧
      (hosted [.write32 .obuf 0 1]).host = [.write32 .obuf 0 1] := by decide

theorem test_witness_setkey :
    (hosted (programOps (Pseudo.lines (.setkey128 (List.replicate 16 7))))).ready = true ∧
      (List.replicate 16 (7 : Byte)).length = 16 ∧
      (hosted (programOps (Pseudo.lines (.setkey256 (List.replicate 32 7))))).ready = true ∧
      (List.replicate 32 (7 : Byte)).length = 32 := by decide

theorem test_witness_key_writes :
    (hosted [.write32 .regs 0x010 1]).busy = false ∧ (∃ t, step (hosted [.write32 .regs 0x010 1]) = .next t) ∧
      (∃ t, step (hosted [.write8 .regs 0x05F 1]) = .next t) := ⟨by decide, ⟨_, rfl⟩, ⟨_, rfl⟩⟩

theorem test_witness_frames_of_commands :
    exec .runE State.reset = .next (after .runE State.reset) ∧ exec .sts State.reset = .next (after .sts State.reset) :=
  ⟨test_exec_answers _ _, test_exec_answers _ _⟩

theorem test_witness_aborts :
    State.reset.fatal = false ∧ exec .kexp State.reset = .next (after .kexp State.reset) ∧
      (after .kexp State.reset).done = false ∧ (after .kexp State.reset).fatal = false :=
  ⟨rfl, test_exec_answers _ _, by decide, by decide⟩

theorem test_witness_fatal_causes :
    State.reset.Inv = true ∧ keyed.Inv = true ∧ (after .ciphE State.reset).fcause = 3 ∧
      (after (.ark 15) keyed).fcause = 4 ∧ (after .lds State.reset).fcause = 5 ∧
      State.Inv { State.reset with bidx := 4 } = true ∧ (after .sts { State.reset with bidx := 4 }).fcause = 5 ∧
      State.Inv { State.reset with ilen := 64 } = true ∧ (after .runE { State.reset with ilen := 64 }).fcause = 5 ∧
      State.Inv { State.reset with olen := 1 } = true ∧ (after .frmD { State.reset with olen := 1 }).fcause = 6 := by
  decide

theorem test_witness_kexp :
    zeroKey.ks = .k128 ∧ zeroKey.klen.toNat = 4 * 4 ∧ (withKey .k256 32 0).ks = .k256 ∧
      (withKey .k256 32 0).klen.toNat = 4 * 8 ∧ State.reset.klen.toNat ≠ 16 ∧
      ({ State.reset with klen := 17 } : State).klen.toNat ≠ 16 ∧ zeroKey.klen.toNat = keyBytes zeroKey.ks := by decide

theorem test_witness_kexp_depends :
    zeroKey.ks = ({ zeroKey with S := countingBlock } : State).ks ∧
      (∀ j, j < keyBytes zeroKey.ks → zeroKey.keyByte j = State.keyByte { zeroKey with S := countingBlock } j) ∧
      exec .kexp zeroKey = .next (after .kexp zeroKey) := ⟨rfl, fun _ _ => rfl, test_exec_answers _ _⟩

theorem test_witness_ark :
    keyed.kvalid = true ∧ 10 ≤ keyed.nr.toNat ∧ State.reset.kvalid = false ∧ keyed.nr.toNat < 11 := by decide

theorem test_witness_lds_sts :
    16 * (withInput 16 []).bidx.toNat + 16 ≤ (withInput 16 []).ilen ∧
      (withInput 15 []).ilen < 16 * (withInput 15 []).bidx.toNat + 16 ∧
      16 * ({ State.reset with bidx := 3 } : State).bidx.toNat + 16 ≤ State.reset.params.bufcap ∧
      State.reset.params.bufcap < 16 * ({ State.reset with bidx := 4 } : State).bidx.toNat + 16 := by decide

theorem test_witness_transforms :
    exec .mixD keyed = .next (after .mixD keyed) ∧ exec (.ark 3) keyed = .next (after (.ark 3) keyed) ∧
      (keyed.kvalid = ({ keyed with bidx := 1 } : State).kvalid) :=
  ⟨test_exec_answers _ _, test_exec_answers _ _, rfl⟩

theorem test_witness_ciph :
    keyed.kvalid = true ∧ State.reset.kvalid = false ∧ keyed.S = ({ keyed with bidx := 1 } : State).S ∧
      (∀ j, j ≤ 4 * keyed.nr.toNat + 3 → scheduleWord keyed.w j = scheduleWord { keyed with bidx := 1 }.w j) ∧
      exec .ciphD keyed = .next (after .ciphD keyed) := ⟨rfl, rfl, rfl, fun _ _ => rfl, test_exec_answers _ _⟩

theorem test_witness_machines : 4 * (10#4).toNat ≤ 41 ∧ 4 * (14#4).toNat ≤ 57 ∧ 3 * 0 + 4 ≤ 4 ∧ 3 * 4 + 4 ≤ 17 := by
  decide

theorem test_witness_frmE :
    State.paramsOk { State.reset with ilen := 48 } = true ∧ padOf .full 48 = 16 ∧ 48 + 16 ≤ State.reset.params.bufcap ∧
      padOf .full 63 = 1 ∧ padOf .full 64 = 16 ∧ State.reset.params.bufcap < 64 + 16 ∧ padOf .none 64 = 0 := by decide

theorem test_witness_frmD :
    PaddedBy ((withOutput 16 (List.replicate 16 0x10)).readBuffer .obuf) 16 16 ∧
      PaddedBy ((withOutput 16 (List.replicate 16 0x01)).readBuffer .obuf) 16 1 ∧
      (∀ p, ¬ PaddedBy (State.reset.readBuffer .obuf) State.reset.olen p) ∧
      ({ State.reset with olen := 15 } : State).olen % 16 ≠ 0 := by
  refine ⟨⟨by decide, by decide, by decide, ?_⟩, ⟨by decide, by decide, by decide, ?_⟩, ?_, by decide⟩
  · exact fun a _ h => (by decide : ∀ a, a < 16 →
      (withOutput 16 (List.replicate 16 0x10)).readBuffer .obuf a = BitVec.ofNat 8 16) a h
  · exact fun a _ h => (by decide : ∀ a, a < 16 →
      (withOutput 16 (List.replicate 16 0x01)).readBuffer .obuf a = BitVec.ofNat 8 1) a h
  · intro p h
    have h1 := h.1
    have h2 : p ≤ 0 := h.2.2.1
    omega

/-- One round trip under FULL from the empty input, and the two cases of NONE: a last byte 0x01, and no valid tail. -/
theorem test_witness_framer_round_trip :
    State.paramsOk State.reset = true ∧ State.reset.ilen < State.reset.params.bufcap ∧
      (withOutput 16 (List.replicate 16 0x10)).olen = (after .frmE State.reset).ilen ∧
      (∀ a, a < (after .frmE State.reset).ilen →
        (withOutput 16 (List.replicate 16 0x10)).readBuffer .obuf a = (after .frmE State.reset).readBuffer .ibuf a) ∧
      State.readBuffer { withInput 16 (List.replicate 16 0x01) with params := ⟨64, .none⟩ } .ibuf (16 - 1) = 0x01 ∧
      (after .frmE { withInput 16 (List.replicate 16 0x01) with params := ⟨64, .none⟩ }).ilen = 16 ∧
      ∀ p, p ≤ 16 → 1 ≤ p →
        State.readBuffer { withInput 16 (List.replicate 16 0x00) with params := ⟨64, .none⟩ } .ibuf 15 ≠ BitVec.ofNat 8 p := by
  decide

theorem test_witness_run :
    zeroKey.paramsOk = true ∧ zeroKey.klen.toNat = keyBytes zeroKey.ks ∧ zeroKey.ready = true ∧ zeroKey.host = [] ∧
      zeroKey.lengthsOk = true ∧ zeroKey.ilen + padOf zeroKey.params.padAligned zeroKey.ilen = 16 * 1 ∧
      zeroKey.ilen = 16 * 0 ∧
      ({ zeroKey with ilen := 47 } : State).ilen + padOf .full 47 = 16 * 3 ∧ 16 * 4 ≤ zeroKey.params.bufcap ∧
      ({ zeroKey with ilen := 64 } : State).ilen = 16 * 4 ∧ 64 ≤ zeroKey.params.bufcap := by decide

theorem test_witness_run_preflight :
    State.reset.params.bufcap < 64 + padOf .full 64 ∧ State.reset.klen.toNat ≠ keyBytes State.reset.ks ∧
      State.reset.ilen % 16 = 0 ∧ ({ State.reset with ilen := 15 } : State).ilen % 16 ≠ 0 ∧
      zeroKey.klen.toNat = keyBytes zeroKey.ks := by decide

theorem test_witness_stream_round_trip :
    zeroKey.paramsOk = true ∧ zeroKey.params.padAligned = .full ∧ zeroKey.ilen < zeroKey.params.bufcap ∧
      zeroKey.klen.toNat = keyBytes zeroKey.ks ∧ exec .runE zeroKey = .next (after .runE zeroKey) ∧
      (∀ a, a < (after .runE zeroKey).olen →
        State.readBuffer { after .runE zeroKey with ibuf := (after .runE zeroKey).obuf } .ibuf a =
          (after .runE zeroKey).readBuffer .obuf a) := by
  refine ⟨by decide, rfl, by decide, by decide, test_exec_answers _ _, fun a h => ?_⟩
  have hl : (after .runE zeroKey).olen = 16 := by decide
  have hs : ∀ a, a < 16 → ((after .runE zeroKey).obuf.lookup a).isSome = true := by decide
  obtain ⟨v, hv⟩ := Option.isSome_iff_exists.mp (hs a (hl ▸ h))
  simp [State.readBuffer, State.bufferMemory, hv]

/-- Two one-block inputs and their concatenation. -/
theorem test_witness_concatenation :
    let A : State := { withInput 16 (List.replicate 16 0) with klen := 16 }
    let AB : State := { withInput 32 (List.replicate 32 0) with klen := 16 }
    A.paramsOk = true ∧ AB.paramsOk = true ∧ A.params.padAligned = .full ∧ AB.ks = A.ks ∧
      (∀ j, j < keyBytes AB.ks → A.keyByte j = AB.keyByte j) ∧ A.klen.toNat = keyBytes A.ks ∧
      AB.klen.toNat = keyBytes AB.ks ∧ A.ilen % 16 = 0 ∧ AB.ilen = A.ilen + A.ilen ∧ AB.ilen < AB.params.bufcap ∧
      (∀ k, k < A.ilen → AB.readBuffer .ibuf k = A.readBuffer .ibuf k) ∧
      (∀ k, k < A.ilen → AB.readBuffer .ibuf (A.ilen + k) = A.readBuffer .ibuf k) := by decide

theorem test_witness_issue_and_poll :
    (hosted [.write32 .regs 0x000 0xA000, .poll]).ready = true ∧
      (hosted [.write32 .regs 0x000 0xA000, .poll]).host = [.write32 .regs 0x000 0xA000, .poll] ∧
      decode 0xA000 = .legal .runE := by decide

theorem test_witness_busy_comes_to_rest : (busyWith []).Inv = true ∧ (busyWith []).busy = true := by decide

end Sys2Proof.Tests
end

section
/-! PROOFS. What a host access that has a meaning does (R27, R28), one lemma per kind of access and state of the engine, and
the statements about the host's view of the registers: O5, O14, O15, O17, O18, O19, O20, O21. -/

namespace Sys2Proof.Machine

/-! ## Accesses that are let through -/

/-- A 32-bit access at a multiple of 4 inside its window is let through (R42). -/
theorem access32_of {s : State} {win : Window} {off : Nat} (ha : off % 4 = 0) (hw : off + 4 ≤ s.windowSize win)
    (go : State) : s.access32 win off go = .next go := by
  simp [State.access32, ha, Nat.not_lt.2 hw]

/-- A byte access inside its window is let through, beyond the 32-bit registers (R28 (e)). -/
theorem access8_of {s : State} {win : Window} {off : Nat} (hw : off < s.windowSize win) (hr : win = .regs → 0x024 ≤ off)
    (go : State) : s.access8 win off go = .next go := by
  have hreg : ¬ (win = .regs ∧ off < 0x024) := fun h => Nat.not_lt.2 (hr h.1) h.2
  rw [State.access8, if_neg (Nat.not_le.2 hw), if_neg hreg]

theorem ready_iff {s : State} : s.ready = true ↔ s.busy = false ∧ s.fatal = false := by simp [State.ready]

/-- A read that may be made answers (R28). -/
theorem hostRead_of {s : State} {allowed : Bool} (h : s.busy = false ∨ allowed = true) (v : BitVec 32) :
    s.hostRead allowed v = { s with rdata := some v } := by
  have hok : (s.busy && !allowed) = false := by obtain h | h := h <;> simp [h]
  simp [State.hostRead, hok]

/-- A read that may not be made while BUSY is FC_BUSY and gets no answer (R28 (c)). -/
theorem hostRead_of_busy {s : State} (h : s.busy = true) (v : BitVec 32) :
    s.hostRead false v = { s.enterFatal .busyAccess with rdata := none } := by simp [State.hostRead, h]

/-- A write to a ready engine has its effect (R28). -/
theorem hostWrite_of_ready {s : State} (h : s.ready = true) (go : State → State) : s.hostWrite go = go s := by
  obtain ⟨hb, hf⟩ := ready_iff.1 h
  simp [State.hostWrite, hb, hf]

/-- A write while BUSY is FC_BUSY (R28 (c)). -/
theorem hostWrite_of_busy {s : State} (h : s.busy = true) (go : State → State) :
    s.hostWrite go = s.enterFatal .busyAccess := by simp [State.hostWrite, h]

/-- A command line while BUSY is FC_BUSY (R28 (c)). -/
theorem command_of_busy {s : State} (h : s.busy = true) (v : BitVec 32) :
    s.command v = .next (s.enterFatal .busyAccess) := by simp [State.command, h]

/-- A command line of a legal word on a ready engine runs the command (R21, R46). -/
theorem command_of_legal {s : State} {v : BitVec 32} {i : Instr} (h : s.ready = true) (hd : decode v = .legal i) :
    s.command v = exec i s := by
  obtain ⟨hb, hf⟩ := ready_iff.1 h
  simp [State.command, hb, hf, hd]

/-! ## Steps of an idle and of a ready engine -/

section Accesses

variable {s : State} {win : Window} {off : Nat} {rest : List HostOp}

/-- A 32-bit read of an idle engine answers the word, FATAL too (R28). -/
theorem step_read32_idle (hb : s.busy = false) (hh : s.host = .read32 win off :: rest) (ha : off % 4 = 0)
    (hw : off + 4 ≤ s.windowSize win) :
    step s = .next { s with host := rest, rdata := some (s.readWordAt win off) } := by
  rw [step_cons hh, hostAct, access32_of ha (by exact hw), hostRead_of (.inl (by exact hb))]
  cases win <;> rfl

/-- A byte read of an idle engine answers the byte, FATAL too (R28). -/
theorem step_read8_idle (hb : s.busy = false) (hh : s.host = .read8 win off :: rest) (hw : off < s.windowSize win)
    (hr : win = .regs → 0x024 ≤ off) :
    step s = .next { s with host := rest, rdata := some ((s.readByteAt win off).setWidth 32) } := by
  rw [step_cons hh, hostAct, access8_of (by exact hw) hr, hostRead_of (.inl (by exact hb))]
  cases win <;> rfl

/-- A 32-bit write to a ready engine has its effect (R28). -/
theorem step_write32_ready {v : BitVec 32} (hs : s.ready = true) (hh : s.host = .write32 win off v :: rest)
    (ha : off % 4 = 0) (hw : off + 4 ≤ s.windowSize win) :
    step s = .next (State.writeWordAt { s with host := rest } win off v) := by
  rw [step_cons hh, hostAct, access32_of ha (by exact hw), hostWrite_of_ready (by exact hs)]

/-- A byte write to a ready engine has its effect (R28). -/
theorem step_write8_ready {v : Byte} (hs : s.ready = true) (hh : s.host = .write8 win off v :: rest)
    (hw : off < s.windowSize win) (hr : win = .regs → 0x024 ≤ off) :
    step s = .next (State.writeByteAt { s with host := rest } win off v) := by
  rw [step_cons hh, hostAct, access8_of (by exact hw) hr, hostWrite_of_ready (by exact hs)]

/-! ## Steps of a busy engine -/

theorem step_cmd_busy {v : BitVec 32} (hb : s.busy = true) (hh : s.host = .cmd v :: rest) :
    step s = .next (State.enterFatal { s with host := rest } .busyAccess) := by
  rw [step_cons hh, hostAct, command_of_busy (by exact hb)]

theorem step_write32_busy {v : BitVec 32} (hb : s.busy = true) (hh : s.host = .write32 win off v :: rest)
    (ha : off % 4 = 0) (hw : off + 4 ≤ s.windowSize win) :
    step s = .next (State.enterFatal { s with host := rest } .busyAccess) := by
  rw [step_cons hh, hostAct, access32_of ha (by exact hw), hostWrite_of_busy (by exact hb)]

theorem step_write8_busy {v : Byte} (hb : s.busy = true) (hh : s.host = .write8 win off v :: rest)
    (hw : off < s.windowSize win) (hr : win = .regs → 0x024 ≤ off) :
    step s = .next (State.enterFatal { s with host := rest } .busyAccess) := by
  rw [step_cons hh, hostAct, access8_of (by exact hw) hr, hostWrite_of_busy (by exact hb)]

theorem step_read32_busy (hb : s.busy = true) (hh : s.host = .read32 win off :: rest) (ha : off % 4 = 0)
    (hw : off + 4 ≤ s.windowSize win) (hst : ¬ (win = .regs ∧ off = 0x004)) :
    step s = .next { State.enterFatal { s with host := rest } .busyAccess with rdata := none } := by
  have hno : isStatusRead win off = false := by simpa [isStatusRead] using hst
  rw [step_cons hh, hostAct, access32_of ha (by exact hw), hno, hostRead_of_busy (by exact hb)]

theorem step_read8_busy (hb : s.busy = true) (hh : s.host = .read8 win off :: rest) (hw : off < s.windowSize win)
    (hr : win = .regs → 0x024 ≤ off) :
    step s = .next { State.enterFatal { s with host := rest } .busyAccess with rdata := none } := by
  rw [step_cons hh, hostAct, access8_of (by exact hw) hr, hostRead_of_busy (by exact hb)]

/-- A read of STATUS answers in every state, BUSY too (R28 (c)). -/
theorem step_readStatus (hh : s.host = .read32 .regs 0x004 :: rest) :
    step s = .next { s with host := rest, rdata := some s.statusWord } := by
  rw [step_cons hh, hostAct, access32_of (by decide) (by simp [State.windowSize]),
    hostRead_of (allowed := isStatusRead .regs 0x004) (.inr rfl)]
  rfl

end Accesses

/-! ## The values of the control registers (R15, R22 to R24) -/

theorem errWord_eq (s : State) : s.errWord = s.err.setWidth 32 := by
  rw [BitVec.setWidth_eq_append (by decide)]
  rfl

theorem fcauseWord_eq (s : State) : s.fcauseWord = s.fcause.setWidth 32 := by
  rw [BitVec.setWidth_eq_append (by decide)]
  rfl

theorem cfgWord_eq (s : State) : s.cfgWord = if s.ks = .k256 then 1 else 0 := by
  unfold State.cfgWord
  cases s.ks <;> rfl

/-- Bits 3:0 of STATUS (R22). -/
theorem statusWord_flags (s : State) :
    s.statusWord.getLsbD 0 = s.busy ∧ s.statusWord.getLsbD 1 = s.done ∧ s.statusWord.getLsbD 2 = s.kvalid ∧
      s.statusWord.getLsbD 3 = s.fatal := by
  simp only [State.statusWord, BitVec.getLsbD_append, BitVec.getLsbD_ofBool]
  simp

/-- Above bits 3:0 of STATUS stand NR and zeros (R22). -/
theorem statusWord_high (s : State) {start len : Nat} (h : 4 ≤ start) :
    s.statusWord.extractLsb' start len = (0#24 ++ s.nr).extractLsb' (start - 4) len := by
  rw [State.statusWord, BitVec.extractLsb'_append_eq_of_le (by omega), BitVec.extractLsb'_append_eq_of_le (by omega),
    BitVec.extractLsb'_append_eq_of_le (by omega), BitVec.extractLsb'_append_eq_of_le (by omega)]
  congr 1

/-! ## The register map (R27) -/

theorem readRegByte_key (s : State) {j : Nat} (hj : j < 32) : s.readRegByte (0x040 + j) = s.keyByte j := by
  rw [State.readRegByte, if_pos (by omega), Nat.add_sub_cancel_left]

theorem readRegByte_S (s : State) (r c : Fin 4) :
    s.readRegByte (0x060 + (r.val + 4 * c.val)) = blockByte s.S r c := by
  have hr : Fin.ofNat 4 (r.val + 4 * c.val) = r := Fin.ext (by simp [Fin.ofNat])
  have hc : Fin.ofNat 4 ((r.val + 4 * c.val) / 4) = c := Fin.ext (by simp [Fin.ofNat]; omega)
  rw [State.readRegByte, if_neg (by omega), if_pos (by omega), Nat.add_sub_cancel_left, linearByte, hr, hc]

theorem readRegByte_w (s : State) {i : Nat} (hi : i < 60) (k : Fin 4) :
    s.readRegByte (0x100 + 4 * i + k.val) = wordByte (scheduleWord s.w i) k := by
  have hoff : 0x100 + 4 * i + k.val - 0x100 = 4 * i + k.val := by omega
  have hword : (4 * i + k.val) / 4 = i := by omega
  have hbyte : Fin.ofNat 4 (4 * i + k.val) = k := Fin.ext (by simp [Fin.ofNat])
  rw [State.readRegByte, if_neg (by omega), if_neg (by omega), if_pos (by omega), hoff, hword, hbyte]

/-- The offsets of the register block at 0x024 and above that hold no byte of KEY, S or W (R27). -/
def ReservedOffset (off : Nat) : Prop :=
  (0x024 ≤ off ∧ off < 0x040) ∨ (0x070 ≤ off ∧ off < 0x100) ∨ 0x1F0 ≤ off

theorem readRegByte_reserved (s : State) {off : Nat} (h : ReservedOffset off) : s.readRegByte off = 0 := by
  obtain h | h | h := h <;> rw [State.readRegByte, if_neg (by omega), if_neg (by omega), if_neg (by omega)]

/-- Beyond the nine 32-bit registers a read of a word is a read of four bytes (R27). -/
theorem readReg_bytes (s : State) {off : Nat} (h : 0x024 ≤ off) :
    s.readReg off = packBytes fun k => s.readRegByte (off + k) := by
  have hne : ∀ a, a < 0x024 → off ≠ a := fun a ha => by omega
  simp [State.readReg, hne]

theorem readReg_reserved (s : State) {off : Nat} (ha : off % 4 = 0) (h : ReservedOffset off) : s.readReg off = 0 := by
  unfold ReservedOffset at h
  have hbytes : ∀ k, k < 4 → s.readRegByte (off + k) = 0 := fun k hk => readRegByte_reserved s (by
    unfold ReservedOffset
    omega)
  rw [readReg_bytes s (by omega), packBytes, hbytes 0 (by decide), hbytes 1 (by decide), hbytes 2 (by decide),
    hbytes 3 (by decide)]
  rfl

/-- A byte write outside KEY and S is ignored (R28 (b)). -/
theorem writeRegByte_ignored (s : State) {off : Nat} (h : off < 0x040 ∨ 0x070 ≤ off) (v : Byte) :
    s.writeRegByte off v = s := by
  rw [State.writeRegByte, if_neg (by omega), if_neg (by omega)]

theorem writeRegByte_key (s : State) {j : Nat} (hj : j < 32) (v : Byte) :
    s.writeRegByte (0x040 + j) v = s.setKeyByte j v := by
  rw [State.writeRegByte, if_pos (by omega), Nat.add_sub_cancel_left]

theorem writeRegByte_S (s : State) {k : Nat} (hk : k < 16) (v : Byte) :
    s.writeRegByte (0x060 + k) v = { s with S := setBlockByte s.S k v } := by
  rw [State.writeRegByte, if_neg (by omega), if_pos (by omega), Nat.add_sub_cancel_left]

/-- A 32-bit write to a read-only register, to W or to a reserved location is ignored (R28 (b)). -/
theorem writeReg_ignored (s : State) {off : Nat} (ha : off % 4 = 0)
    (h : off = 0x004 ∨ off = 0x008 ∨ off = 0x00C ∨ (0x024 ≤ off ∧ off < 0x040) ∨ 0x070 ≤ off) (v : BitVec 32) :
    s.writeReg off v = s := by
  have hbytes : ∀ k, k < 4 → ∀ b, s.writeRegByte (off + k) b = s := fun k hk b =>
    writeRegByte_ignored s (by omega) b
  have h0 := hbytes 0 (by decide)
  rw [Nat.add_zero] at h0
  rw [State.writeReg, if_neg (by omega), if_neg (by omega), if_neg (by omega), if_neg (by omega), if_neg (by omega),
    if_neg (by omega), h0, hbytes 1 (by decide), hbytes 2 (by decide), hbytes 3 (by decide)]

theorem writeReg_ilen (s : State) (v : BitVec 32) :
    s.writeReg 0x018 v = s.writeLength v fun t n => { t with ilen := n } := rfl

theorem writeReg_olen (s : State) (v : BitVec 32) :
    s.writeReg 0x01C v = s.writeLength v fun t n => { t with olen := n } := rfl

/-- A length inside the capacity is stored (R18). -/
theorem writeLength_of_le {s : State} {v : BitVec 32} (h : v.toNat ≤ s.params.bufcap) (store : State → Nat → State) :
    s.writeLength v store = store s v.toNat := if_neg (Nat.not_lt.2 h)

/-- A length above the capacity is FC_RANGE (R18). -/
theorem writeLength_of_lt {s : State} {v : BitVec 32} (h : s.params.bufcap < v.toNat) (store : State → Nat → State) :
    s.writeLength v store = s.enterFatal .range := if_pos h

/-- A read of KEY after a write of one byte of it (R13). -/
theorem keyByte_setKeyByte (s : State) {j : Nat} (hj : j < 32) (v : Byte) (j' : Nat) :
    (s.setKeyByte j v).keyByte j' = if j' = j then v else s.keyByte j' := by
  simp only [State.keyByte, setKeyByte_key, Vector.getD, Array.getD_eq_getD_getElem?, Vector.toArray_setIfInBounds,
    Array.getElem?_setIfInBounds, Vector.size_toArray]
  by_cases h : j' = j
  · simp [h, hj]
  · simp [h, Ne.symm h]

/-- A read of S after a write of one byte of it (R12). -/
theorem blockByte_setBlockByte (b : Block) (r c : Fin 4) (v : Byte) (r' c' : Fin 4) :
    blockByte (setBlockByte b (r.val + 4 * c.val) v) r' c' = if r' = r ∧ c' = c then v else blockByte b r' c' := by
  have hr : (r.val + 4 * c.val) % 4 = r.val := by omega
  have hc : (r.val + 4 * c.val) / 4 = c.val := by omega
  simp only [setBlockByte, blockByte_blockOf, hr, hc, Fin.val_inj]

/-- A read of a buffer after a write of one byte of it (R20). -/
theorem readBuffer_memWrite_byte (s : State) (b : Buffer) (a : Nat) (v : Byte) (x : Nat) :
    (s.memWrite b a [v]).readBuffer b x = if x = a then v else s.readBuffer b x := by
  rw [readBuffer_memWrite]
  by_cases h : x = a
  · subst h; simp
  · rw [if_neg h, if_neg (by simp only [List.length_singleton]; omega)]

end Sys2Proof.Machine

open Sys2Proof Sys2Proof.Machine

/-- Settles O5: a command line of a legal word on a ready engine is exec; a table word is put in front as such a line. -/
theorem stepRunsTheDecodedCommand : Obligations.StepRunsTheDecodedCommand := by
  have hline : ∀ (s : State) (v : BitVec 32) (i : Instr) (rest : List HostOp), s.ready = true →
      s.host = .cmd v :: rest → decode v = .legal i → step s = exec i { s with host := rest } :=
    fun s v i rest hr hh hd => by rw [step_cons hh, hostAct, command_of_legal (by exact hr) hd]
  refine ⟨hline, fun s w i hr hw => hline _ (tableValue 16 w) i s.host hr rfl ?_⟩
  unfold decodeTableWord at hw
  split at hw
  · next j hj => rw [hj, Option.some.inj hw]
  · exact nomatch hw

/-- Settles O14: an engine in the FATAL state is idle, and reads of an idle engine answer. -/
theorem fatalReadsStillAnswer : Obligations.FatalReadsStillAnswer :=
  fun _ _ _ _ _ hb => ⟨step_read32_idle hb, step_read8_idle hb⟩

/-- Settles O15, by the kind of access. -/
theorem busyAccessIsFatal : Obligations.BusyAccessIsFatal := by
  intro s op rest hb hh
  refine ⟨fun v ho => ?_, fun win off v ho ha hw => ?_, fun win off v ho hw hr => ?_,
    fun win off ho ha hw hst => ?_, fun win off ho hw hr => ?_, fun ho => ?_⟩ <;> subst ho
  · exact step_cmd_busy hb hh
  · exact step_write32_busy hb hh ha hw
  · exact step_write8_busy hb hh hw hr
  · exact step_read32_busy hb hh ha hw hst
  · exact step_read8_busy hb hh hw hr
  · exact step_readStatus hh

/-- Settles O17: STATUS is the concatenation of its fields, the highest first. -/
theorem statusBits : Obligations.StatusBits := by
  intro s
  obtain ⟨h0, h1, h2, h3⟩ := statusWord_flags s
  have hbusy : s.busy = true ↔ s.cur ≠ none := by rw [State.busy, Option.isSome_iff_ne_none]
  refine ⟨h0, hbusy, h1, h2, h3, ?_, ?_⟩
  · rw [statusWord_high s (by decide), BitVec.extractLsb'_append_eq_right]
  · rw [statusWord_high s (by decide), BitVec.extractLsb'_append_eq_left]

/-- Settles O18, register by register. -/
theorem controlRegisterReadsAndWrites : Obligations.ControlRegisterReadsAndWrites := by
  constructor
  · intro s off rest hb hh
    have hread : off % 4 = 0 → off + 4 ≤ 0x1000 →
        step s = .next { s with host := rest, rdata := some (s.readReg off) } := step_read32_idle hb hh
    refine ⟨?_, ?_, ?_, ?_, ?_, ?_, ?_, ?_⟩ <;> rintro rfl
    · exact hread (by decide) (by decide)
    · rw [← errWord_eq]
      exact hread (by decide) (by decide)
    · rw [← fcauseWord_eq]
      exact hread (by decide) (by decide)
    · rw [← cfgWord_eq]
      exact hread (by decide) (by decide)
    · exact hread (by decide) (by decide)
    · exact ⟨_, hread (by decide) (by decide), BitVec.toNat_ofNat _ _⟩
    · exact ⟨_, hread (by decide) (by decide), BitVec.toNat_ofNat _ _⟩
    · exact hread (by decide) (by decide)
  · intro s v rest hs
    have hwrite : ∀ off, off % 4 = 0 → off + 4 ≤ 0x1000 → s.host = .write32 .regs off v :: rest →
        step s = .next (State.writeReg { s with host := rest } off v) :=
      fun off ha hw hh => step_write32_ready hs hh ha hw
    refine ⟨fun hh => ?_, fun hh => ?_, fun hh => ⟨fun hv => ?_, fun hv => ?_⟩, fun hh => ⟨fun hv => ?_, fun hv => ?_⟩,
      fun hh => ?_⟩ <;> have hstep := hwrite _ (by decide) (by decide) hh
    · exact hstep
    · exact ⟨_, hstep, rfl, BitVec.toNat_setWidth _ _⟩
    · rw [hstep, writeReg_ilen, writeLength_of_le (by exact hv)]
    · rw [hstep, writeReg_ilen, writeLength_of_lt (by exact hv)]
      rfl
    · rw [hstep, writeReg_olen, writeLength_of_le (by exact hv)]
    · rw [hstep, writeReg_olen, writeLength_of_lt (by exact hv)]
      rfl
    · exact hstep

/-- Settles O19: what the register map gives no writable byte ignores a write, and what it gives no byte reads 0. -/
theorem readOnlyAndReservedLocations : Obligations.ReadOnlyAndReservedLocations := by
  refine ⟨fun s off v rest hs ha hlt h hh => ?_, fun s off v rest hs hlt h hh => ?_,
    fun s off rest hs ha hlt h hh => ?_, fun s off rest hs hlt h hh => ?_⟩
  · rw [step_write32_ready hs hh ha (by simp only [State.windowSize]; omega)]
    exact congrArg _ (writeReg_ignored _ ha h v)
  · rw [step_write8_ready hs hh hlt fun _ => by omega]
    exact congrArg _ (writeRegByte_ignored _ (by omega) v)
  · rw [step_read32_idle (ready_iff.1 hs).1 hh ha (by simp only [State.windowSize]; omega)]
    have hzero : s.readReg off = 0 := by
      obtain rfl | h := h
      · rfl
      · exact readReg_reserved s ha h
    rw [State.readWordAt, hzero]
  · rw [step_read8_idle (ready_iff.1 hs).1 hh hlt fun _ => by omega, State.readByteAt, readRegByte_reserved s h]
    rfl

/-- Settles O20: the byte ranges of the register map. -/
theorem byteRangesOfTheRegisterBlock : Obligations.ByteRangesOfTheRegisterBlock := by
  intro s rest hs
  have hb := (ready_iff.1 hs).1
  have hwrite : ∀ off v, 0x024 ≤ off → off < 0x1000 → s.host = .write8 .regs off v :: rest →
      step s = .next (State.writeRegByte { s with host := rest } off v) :=
    fun off v h1 h2 hh => step_write8_ready hs hh h2 fun _ => h1
  have hread : ∀ off, 0x024 ≤ off → off < 0x1000 → s.host = .read8 .regs off :: rest →
      step s = .next { s with host := rest, rdata := some ((s.readRegByte off).setWidth 32) } :=
    fun off h1 h2 hh => step_read8_idle hb hh h2 fun _ => h1
  refine ⟨fun j v hj hh => ?_, fun r c v hh => ?_, fun j hj hh => ?_, fun r c hh => ?_, fun i k hi hh => ?_⟩
  · have hkey := keyByte_setKeyByte { s with host := rest } hj v
    rw [hwrite _ v (by omega) (by omega) hh, writeRegByte_key _ hj]
    exact ⟨_, rfl, rfl, by rw [hkey, if_pos rfl], fun j' hne => by rw [hkey, if_neg hne]; rfl⟩
  · rw [hwrite _ v (by omega) (by omega) hh, writeRegByte_S _ (by omega)]
    exact ⟨_, rfl, rfl, blockByte_setBlockByte s.S r c v⟩
  · rw [hread _ (by omega) (by omega) hh, readRegByte_key s hj]
  · rw [hread _ (by omega) (by omega) hh, readRegByte_S]
  · rw [hread _ (by omega) (by omega) hh, readRegByte_w s hi]

/-- Settles O21: a byte of a buffer window is a byte of the buffer. -/
theorem bufferWindowAccesses : Obligations.BufferWindowAccesses := by
  intro s a v rest hs ha
  have hb := (ready_iff.1 hs).1
  refine ⟨fun hh => ?_, fun hh => ?_, fun hh => ?_, fun hh => ?_⟩
  · rw [step_write8_ready hs hh ha nofun]
    exact ⟨_, rfl, rfl, readBuffer_memWrite_byte { s with host := rest } .ibuf a v⟩
  · rw [step_write8_ready hs hh ha nofun]
    exact ⟨_, rfl, rfl, readBuffer_memWrite_byte { s with host := rest } .obuf a v⟩
  · exact step_read8_idle hb hh ha nofun
  · exact step_read8_idle hb hh ha nofun
end

section
/-! PROOFS. A command and its list of micro-operations (R25): the work of a list, the engine stepping through it, and the
statements O58 and O59. -/

namespace Sys2Proof.Machine

/-! ## The frame, field by field -/

/-- The fields that neither the work of a command nor the end of it writes. -/
theorem SameOutsideWork.untouched {s t : State} (h : SameOutsideWork s t) :
    t.key = s.key ∧ t.klen = s.klen ∧ t.ks = s.ks ∧ t.params = s.params ∧ t.epoch = s.epoch ∧ t.host = s.host ∧
      t.rdata = s.rdata := by
  have e : t = _ := h
  rw [e]
  exact ⟨rfl, rfl, rfl, rfl, rfl, rfl, rfl⟩

/-- The work writes no flag. -/
theorem SameOutsideWork.flags {s t : State} (h : SameOutsideWork s t) :
    t.done = s.done ∧ t.fatal = s.fatal ∧ t.err = s.err ∧ t.fcause = s.fcause := by
  have e : t = _ := h
  rw [e]
  exact ⟨rfl, rfl, rfl, rfl⟩

/-- The work leaves SEQ where it is. -/
theorem SameOutsideWork.seq {s t : State} (h : SameOutsideWork s t) :
    t.cur = s.cur ∧ t.mi = s.mi ∧ t.plan = s.plan := by
  have e : t = _ := h
  rw [e]
  exact ⟨rfl, rfl, rfl⟩

/-- The state a micro-operation whose work is done leaves differs from the old one in that work only. -/
theorem microEffect_ok_frame {u : MicroOp} {s t : State} (h : microEffect u s = .ok t) : SameOutsideWork s t := by
  simpa [h, Effect.state] using microEffect_frame u s

/-! ## The work of a list of micro-operations -/

/-- The work of a list: one micro-operation after another, up to the first that ends the command (R25). -/
def runMicros : List MicroOp → State → Effect
  | [], s => .ok s
  | u :: us, s => (microEffect u s).andThen (runMicros us)

@[simp] theorem runMicros_nil (s : State) : runMicros [] s = .ok s := rfl

@[simp] theorem runMicros_cons (u : MicroOp) (us : List MicroOp) (s : State) :
    runMicros (u :: us) s = (microEffect u s).andThen (runMicros us) := rfl

theorem runMicros_append (p q : List MicroOp) (s : State) :
    runMicros (p ++ q) s = (runMicros p s).andThen (runMicros q) := by
  induction p generalizing s with
  | nil => rfl
  | cons u p ih =>
    rw [List.cons_append, runMicros_cons, runMicros_cons, andThen_assoc, funext ih]

@[simp] theorem andThen_ok_right (e : Effect) : (e.andThen fun t => .ok t) = e := by cases e <;> rfl

@[simp] theorem runMicros_singleton (u : MicroOp) (s : State) : runMicros [u] s = microEffect u s :=
  andThen_ok_right _

/-! ## The work does not look at SEQ or DONE -/

/-- `s` with the SEQ and the DONE of another state. -/
def State.withSeqOf (s q : State) : State := { s with done := q.done, cur := q.cur, mi := q.mi, plan := q.plan }

/-- An effect with the state it has reached replaced. -/
def Effect.mapState (f : State → State) : Effect → Effect
  | .ok t => .ok (f t)
  | .notice t => .notice (f t)
  | .error t bits => .error (f t) bits
  | .fatal t c => .fatal (f t) c

/-- How a command ends overwrites SEQ and DONE, so it does not matter what they were. -/
theorem settle_mapState_withSeqOf (e : Effect) (q : State) :
    (e.mapState fun t => t.withSeqOf q).settle = e.settle := by cases e <;> rfl

theorem mapState_ite (c : Prop) [Decidable c] (f : State → State) (a b : Effect) :
    (if c then a else b).mapState f = if c then a.mapState f else b.mapState f := by split <;> rfl

theorem withSeqOf_memWrite (s q : State) (b : Buffer) (a : Nat) (vs : List Byte) :
    (s.withSeqOf q).memWrite b a vs = (s.memWrite b a vs).withSeqOf q := by cases b <;> rfl

/-- A micro-operation does the same work whatever SEQ and DONE hold. -/
theorem microEffect_withSeqOf (u : MicroOp) (s q : State) :
    microEffect u (s.withSeqOf q) = (microEffect u s).mapState fun t => t.withSeqOf q := by
  cases u
  case sts =>
    simp only [microEffect, stsEffect, mapState_ite, withSeqOf_memWrite]
    rfl
  case frmE =>
    simp only [microEffect, frmEEffect, mapState_ite, withSeqOf_memWrite]
    rfl
  all_goals
    simp only [microEffect, keyCheckEffect, ldsEffect, transformEffect, arkEffect, frmDEffect, preflightE, preflightD,
      mapState_ite]
    rfl

/-- So does a list. -/
theorem runMicros_withSeqOf (us : List MicroOp) (s q : State) :
    runMicros us (s.withSeqOf q) = (runMicros us s).mapState fun t => t.withSeqOf q := by
  induction us generalizing s with
  | nil => rfl
  | cons u us ih =>
    rw [runMicros_cons, runMicros_cons, microEffect_withSeqOf]
    cases microEffect u s with
    | ok t => exact ih t
    | notice t => rfl
    | error t bits => rfl
    | fatal t c => rfl

/-! ## The engine performs the list -/

theorem engineSteps_of_idle {s : State} (h : s.busy = false) (n : Nat) : engineSteps n s = s := by
  cases n <;> simp [engineSteps, h]

theorem engineSteps_succ {s : State} (h : s.busy = true) (n : Nat) :
    engineSteps (n + 1) s = engineSteps n (engineStep s) := by simp [engineSteps, h]

theorem busy_of_cur_eq {s t : State} (h : t.cur = s.cur) : t.busy = s.busy := by simp [State.busy, h]

/-- The entry of a list that its rest begins with, and the rest after it. -/
theorem drop_eq_cons {us rest : List MicroOp} {u : MicroOp} {n : Nat} (h : us.drop n = u :: rest) :
    us[n]? = some u ∧ us.drop (n + 1) = rest := by
  constructor
  · rw [← List.head?_drop, h, List.head?_cons]
  · rw [← List.tail_drop, h, List.tail_cons]

/-- A micro-operation whose work is done moves MI on (R25). -/
theorem engineStep_of_ok {s t : State} {u : MicroOp} (hu : s.plan[s.mi]? = some u) (he : microEffect u s = .ok t) :
    engineStep s = t.advance := by simp [engineStep, hu, he]

theorem advance_of_lt {s : State} (h : s.mi + 1 < s.plan.length) : s.advance = { s with mi := s.mi + 1 } := if_pos h

theorem advance_of_le {s : State} (h : s.plan.length ≤ s.mi + 1) : s.advance = s.finish 0 := if_neg (Nat.not_lt.2 h)

/-- A busy engine comes to rest in the state that the work of the rest of its list leaves, in as many steps as the rest
has entries (R25). -/
theorem engineSteps_eq_settle {us : List MicroOp} {s : State} (hb : s.busy = true) (hd : s.plan.drop s.mi = us)
    (hne : us ≠ []) : engineSteps us.length s = (runMicros us s).settle := by
  induction us generalizing s with
  | nil => exact absurd rfl hne
  | cons u us ih =>
    obtain ⟨hu, hrest⟩ := drop_eq_cons hd
    rw [List.length_cons, engineSteps_succ hb, runMicros_cons]
    cases he : microEffect u s with
    | ok t =>
      obtain ⟨hcur, hmi, hplan⟩ := (microEffect_ok_frame he).seq
      rw [← hmi, ← hplan] at hrest
      rw [engineStep_of_ok hu he, andThen_ok]
      by_cases hnil : us = []
      · subst hnil
        rw [advance_of_le (List.drop_eq_nil_iff.1 hrest)]
        rfl
      · have hmore : t.mi + 1 < t.plan.length := Nat.not_le.1 fun hle =>
          hnil (hrest.symm.trans (List.drop_eq_nil_iff.2 hle))
        have hadv := advance_of_lt hmore
        have hseq : t.advance = t.withSeqOf t.advance := by rw [hadv]; rfl
        have hbt : t.advance.busy = true := by rw [busy_of_cur_eq (s := s) (by rw [hadv, ← hcur]), hb]
        have hdt : t.advance.plan.drop t.advance.mi = us := by rw [hadv, ← hrest]
        rw [ih hbt hdt hnil, hseq, runMicros_withSeqOf, settle_mapState_withSeqOf]
    | notice t => simp only [engineStep, hu, he, engineSteps_of_idle (busy_settle _), andThen_notice]
    | error t bits => simp only [engineStep, hu, he, engineSteps_of_idle (busy_settle _), andThen_error]
    | fatal t c => simp only [engineStep, hu, he, engineSteps_of_idle (busy_settle _), andThen_fatal]

/-- From acceptance on, the engine comes to rest in the state the work of the whole list leaves. -/
theorem engineSteps_accept (s : State) (word : BitVec 16) {us : List MicroOp} (hne : us ≠ []) :
    engineSteps us.length (s.accept word us) = (runMicros us s).settle := by
  have hseq : s.accept word us = s.withSeqOf (s.accept word us) := rfl
  rw [engineSteps_eq_settle (us := us) (busy_accept s word us) rfl hne, hseq, runMicros_withSeqOf, settle_mapState_withSeqOf]

/-! ## The list of each command does the work of the command -/

/-- KGEN of consecutive words generates them in order (R85, R87). -/
theorem runMicros_kgen (n i : Nat) (s : State) :
    runMicros ((List.range' i n).map MicroOp.kgen) s =
      .ok { s with w := generateWords (keyWords s.ks) n i s.w } := by
  induction n generalizing i s with
  | zero => rfl
  | succ n ih =>
    rw [List.range'_succ, List.map_cons, runMicros_cons, microEffect, andThen_ok, ih]
    rfl

/-- The key phase expands the key (R87). -/
theorem runMicros_keyPhase {ks : KeySize} {s : State} (h : s.ks = ks) :
    runMicros (keyPhase ks) s = .ok s.expandKey := by
  subst h
  rw [keyPhase, List.cons_append, runMicros_cons, microEffect, andThen_ok, runMicros_append]
  have hgen := runMicros_kgen (scheduleWords s.ks - keyWords s.ks) (keyWords s.ks) s.loadKey
  rw [hgen]
  rfl

theorem arkEffect_of_le {s : State} {r : Nat} (hk : s.kvalid = true) (hr : r ≤ s.nr.toNat) :
    arkEffect r s = .ok { s with S := addRoundKey s.w r s.S } := by
  simp [arkEffect, hk, Nat.not_lt.2 hr]

theorem arkEffect_of_noKey {s : State} (r : Nat) (hk : s.kvalid = false) : arkEffect r s = .fatal s .noKey := by
  simp [arkEffect, hk]

/-- The middle rounds of the encryptor's list (R120, R123). -/
theorem runMicros_encryptMiddle {s : State} (hk : s.kvalid = true) (n : Nat) (hn : n ≤ s.nr.toNat) :
    runMicros (encryptMiddle n) s = .ok { s with S := encryptRounds s.w n s.S } := by
  induction n with
  | zero => rfl
  | succ n ih =>
    rw [encryptMiddle, runMicros_append, ih (by omega)]
    simp only [runMicros_cons, microEffect, transformEffect, andThen_ok]
    rw [arkEffect_of_le (by exact hk) (by exact hn)]
    rfl

/-- The middle rounds of the decryptor's list (R121, R123). -/
theorem runMicros_decryptMiddle {s : State} (hk : s.kvalid = true) (n : Nat) (hn : n ≤ s.nr.toNat) :
    runMicros (decryptMiddle n) s = .ok { s with S := decryptRounds s.w n s.S } := by
  induction n generalizing s with
  | zero => rfl
  | succ n ih =>
    rw [decryptMiddle]
    simp only [List.cons_append, List.nil_append, runMicros_cons, microEffect, transformEffect, andThen_ok]
    rw [arkEffect_of_le (by exact hk) (by exact hn)]
    rw [andThen_ok, runMicros_cons, microEffect, transformEffect, andThen_ok, ih (by exact hk) (by exact Nat.le_of_succ_le hn)]
    rfl

theorem ciphEEffect_of_key {s : State} (hk : s.kvalid = true) :
    ciphEEffect s = .ok { s with S := encryptBlock s.S s.w s.nr.toNat } := by simp [ciphEEffect, hk]

theorem ciphEEffect_of_noKey {s : State} (hk : s.kvalid = false) : ciphEEffect s = .fatal s .noKey := by
  simp [ciphEEffect, hk]

theorem ciphDEffect_of_key {s : State} (hk : s.kvalid = true) :
    ciphDEffect s = .ok { s with S := decryptBlock s.S s.w s.nr.toNat } := by simp [ciphDEffect, hk]

theorem ciphDEffect_of_noKey {s : State} (hk : s.kvalid = false) : ciphDEffect s = .fatal s .noKey := by
  simp [ciphDEffect, hk]

/-- The encryptor's list does the work of CIPH.E, the check of KVALID in its first entry (R120, R122, R123). -/
theorem runMicros_ciphE (s : State) : runMicros (ciphEUops s.nr.toNat) s = ciphEEffect s := by
  simp only [ciphEUops, List.flatten_cons, List.flatten_nil, List.append_nil, List.cons_append, List.nil_append,
    runMicros_cons, microEffect]
  cases hk : s.kvalid with
  | false => rw [arkEffect_of_noKey 0 hk, ciphEEffect_of_noKey hk, andThen_fatal]
  | true =>
    rw [arkEffect_of_le hk (Nat.zero_le _), ciphEEffect_of_key hk, andThen_ok, runMicros_append,
      runMicros_encryptMiddle (by exact hk) _ (by exact Nat.sub_le _ _)]
    simp only [andThen_ok, runMicros_cons, microEffect, transformEffect]
    rw [arkEffect_of_le (by exact hk) (by exact Nat.le_refl _)]
    rfl

/-- The decryptor's list does the work of CIPH.D (R121, R122, R123). -/
theorem runMicros_ciphD (s : State) : runMicros (ciphDUops s.nr.toNat) s = ciphDEffect s := by
  simp only [ciphDUops, List.flatten_cons, List.flatten_nil, List.append_nil, List.cons_append, List.nil_append,
    runMicros_cons, microEffect]
  cases hk : s.kvalid with
  | false => rw [arkEffect_of_noKey _ hk, ciphDEffect_of_noKey hk, andThen_fatal]
  | true =>
    rw [arkEffect_of_le hk (Nat.le_refl _), ciphDEffect_of_key hk, andThen_ok, runMicros_append,
      runMicros_decryptMiddle (by exact hk) _ (by exact Nat.sub_le _ _)]
    simp only [andThen_ok, runMicros_cons, microEffect, transformEffect]
    rw [arkEffect_of_le (by exact hk) (by exact Nat.zero_le _)]
    rfl

/-- A chain depends only on what its second part does where the first part has done its work. -/
theorem andThen_congr {e : Effect} {f g : State → Effect} (h : ∀ t, e = .ok t → f t = g t) :
    e.andThen f = e.andThen g := by
  cases e with
  | ok t => exact h t rfl
  | notice t => rfl
  | error t bits => rfl
  | fatal t c => rfl

/-- The block transfers leave NR alone. -/
theorem ldsEffect_ok_nr {s t : State} (h : ldsEffect s = .ok t) : t.nr = s.nr := by
  obtain ⟨-, hnr, -⟩ := microEffect_schedule_frame .lds s nofun nofun nofun
  simpa [microEffect, h, Effect.state] using hnr

theorem stsEffect_ok_nr {s t : State} (h : stsEffect s = .ok t) : t.nr = s.nr := by
  obtain ⟨-, hnr, -⟩ := microEffect_schedule_frame .sts s nofun nofun nofun
  simpa [microEffect, h, Effect.state] using hnr

/-- The block loop of R167 does the work of the block loop of R161 and R162, for a cipher whose list does the work of the
command and which leaves NR alone. -/
theorem runMicros_blockUops {lists : Nat → List MicroOp} {cipher : State → Effect}
    (hc : ∀ s, runMicros (lists s.nr.toNat) s = cipher s) (hnr : ∀ s t, cipher s = .ok t → t.nr = s.nr)
    (n b : Nat) (s : State) : runMicros (blockUops (lists s.nr.toNat) n b) s = runBlocks cipher n b s := by
  induction n generalizing b s with
  | zero => rfl
  | succ n ih =>
    simp only [blockUops, runBlocks, List.flatten_cons, List.flatten_nil, List.append_nil, List.cons_append,
      List.nil_append, runMicros_cons, microEffect, andThen_ok]
    refine andThen_congr fun t ht => ?_
    have et : t.nr = s.nr := (ldsEffect_ok_nr ht).trans (setBidx_nr s b)
    rw [← et, runMicros_append, hc t]
    refine andThen_congr fun u hu => ?_
    refine andThen_congr fun v hv => ?_
    rw [← hnr t u hu, ← stsEffect_ok_nr hv]
    exact ih _ v

theorem ciphEEffect_ok_nr (s t : State) (h : ciphEEffect s = .ok t) : t.nr = s.nr := by
  unfold ciphEEffect at h
  split at h <;> cases h
  rfl

theorem ciphDEffect_ok_nr (s t : State) (h : ciphDEffect s = .ok t) : t.nr = s.nr := by
  unfold ciphDEffect at h
  split at h <;> cases h
  rfl

/-- The checks of a pre-flight write nothing when they pass. -/
theorem preflightE_ok {s t : State} (h : preflightE s = .ok t) : t = s := by
  simp only [preflightE, keyCheckEffect] at h
  split at h
  · cases h
  · split at h <;> cases h
    rfl

theorem preflightD_ok {s t : State} (h : preflightD s = .ok t) : t = s := by
  simp only [preflightD] at h
  split at h
  · cases h
    rfl
  · split at h <;> cases h

theorem keyCheckEffect_ok {s t : State} (h : keyCheckEffect s = .ok t) : t = s := by
  unfold keyCheckEffect at h
  split at h <;> cases h
  rfl

/-- FRM.E leaves NR alone and ILEN at the padded length. -/
theorem frmEEffect_ok {s t : State} (h : frmEEffect s = .ok t) : t.nr = s.nr ∧ t.ilen = s.paddedLength := by
  unfold frmEEffect at h
  split at h <;> cases h
  exact ⟨rfl, rfl⟩

/-- The list of RUN.E does the work of RUN.E (R161, R167). -/
theorem runMicros_runE (s : State) : runMicros (runEUops s.ks (s.paddedLength / 16)) s = runEEffect s := by
  simp only [runEUops, List.flatten_cons, List.flatten_nil, List.append_nil, List.cons_append, List.nil_append,
    runMicros_cons, microEffect, runEEffect]
  refine andThen_congr fun t ht => ?_
  obtain rfl := preflightE_ok ht
  rw [runMicros_append, runMicros_keyPhase rfl, andThen_ok, runMicros_cons]
  refine andThen_congr fun u hu => ?_
  obtain ⟨hnr, hlen⟩ := frmEEffect_ok hu
  have hblocks := runMicros_blockUops runMicros_ciphE ciphEEffect_ok_nr (t.paddedLength / 16) 0 u
  have hlen' : u.ilen = t.paddedLength := hlen
  have hnr' : u.nr = roundsOf t.ks := hnr
  rw [hnr'] at hblocks
  rw [runMicros_append, hblocks, hlen']
  exact andThen_congr fun v _ => runMicros_singleton _ v

/-- The list of RUN.D does the work of RUN.D (R162, R167). -/
theorem runMicros_runD (s : State) : runMicros (runDUops s.ks (s.ilen / 16)) s = runDEffect s := by
  simp only [runDUops, List.flatten_cons, List.flatten_nil, List.append_nil, List.cons_append, List.nil_append,
    runMicros_cons, microEffect, runDEffect]
  refine andThen_congr fun t ht => ?_
  obtain rfl := preflightD_ok ht
  have hblocks := runMicros_blockUops runMicros_ciphD ciphDEffect_ok_nr (t.ilen / 16) 0 t.expandKey
  have hnr : t.expandKey.nr = roundsOf t.ks := rfl
  rw [hnr] at hblocks
  rw [runMicros_append, runMicros_keyPhase rfl, andThen_ok, runMicros_append, hblocks]
  refine andThen_congr fun v _ => ?_
  rw [runMicros_cons, microEffect, andThen_ok]
  exact runMicros_singleton _ _

/-- The list fixed at acceptance does the work of the command, whichever it is (R25). -/
theorem runMicros_uops (i : Instr) (s : State) : runMicros (uops i s) s = commandEffect i s := by
  cases i
  case kexp =>
    rw [uops, runMicros_cons]
    refine andThen_congr fun t ht => ?_
    obtain rfl := keyCheckEffect_ok ht
    exact runMicros_keyPhase rfl
  case ciphE => exact runMicros_ciphE s
  case ciphD => exact runMicros_ciphD s
  case runE => exact runMicros_runE s
  case runD => exact runMicros_runD s
  all_goals exact runMicros_singleton _ s

/-- No list is empty (R25). -/
theorem uops_ne_nil (i : Instr) (s : State) : uops i s ≠ [] := by cases i <;> exact List.cons_ne_nil _ _

/-- The meaning of a command is the engine stepping through its list, from acceptance to rest (R25). -/
theorem exec_eq_engineSteps (i : Instr) (s : State) (word : BitVec 16) :
    exec i s = .next (engineSteps (uops i s).length (s.accept word (uops i s))) := by
  rw [engineSteps_accept s word (uops_ne_nil i s), runMicros_uops, exec_eq]

/-! ## Polling -/

/-- A step that answers a next state is the first of a run. -/
theorem run_succ_of_step {s t : State} (h : step s = .next t) (k : Nat) :
    Host.Core.run Sys2Proof.core (k + 1) s = Host.Core.run Sys2Proof.core k t := by
  have hc : Sys2Proof.core.step s = .next t := h
  simp [Host.Core.run, hc]

/-- Settling leaves the host's list alone. -/
@[simp] theorem settle_host (e : Effect) : e.settle.host = e.state.host := by cases e <;> rfl

@[simp] theorem advance_host (s : State) : s.advance.host = s.host := by
  unfold State.advance
  split <;> rfl

/-- The engine does not touch the host's list. -/
theorem engineStep_host (s : State) : (engineStep s).host = s.host := by
  obtain h | ⟨u, -, ⟨t, ht, h⟩ | ⟨-, h⟩⟩ := engineStep_cases s
  · rw [h, finish_host]
  · obtain ⟨-, -, -, -, -, hhost, -⟩ := (microEffect_ok_frame ht).untouched
    rw [h, advance_host, hhost]
  · obtain ⟨-, -, -, -, -, hhost, -⟩ := (microEffect_frame u s).untouched
    rw [h, settle_host, hhost]

/-- A poll of a busy engine lets it make one step, and the host goes on polling. -/
theorem step_poll_busy {s : State} (h : s.busy = true) :
    step { s with host := .poll :: s.host } =
      .next { engineStep s with host := .poll :: (engineStep s).host } := by
  rw [step_cons rfl, engineStep_host]
  exact congrArg Host.Outcome.next (if_pos h)

/-- A poll of an idle engine answers STATUS. -/
theorem step_poll_idle {s : State} (h : s.busy = false) :
    step { s with host := .poll :: s.host } = .next { s with rdata := some s.statusWord } := by
  rw [step_cons rfl]
  refine congrArg Host.Outcome.next ((if_neg (Bool.not_eq_true _ ▸ h)).trans ?_)
  simp [State.hostRead]

/-- Polling lets the engine come to rest and then answers STATUS (R46, R69). -/
theorem run_poll (n : Nat) (s : State) (h : (engineSteps n s).busy = false) :
    ∃ k, Host.Core.run Sys2Proof.core k { s with host := .poll :: s.host } =
      .next { engineSteps n s with rdata := some (engineSteps n s).statusWord } := by
  induction n generalizing s with
  | zero => exact ⟨1, run_succ_of_step (step_poll_idle h) 0⟩
  | succ n ih =>
    cases hb : s.busy with
    | false =>
      rw [engineSteps_of_idle hb]
      exact ⟨1, run_succ_of_step (step_poll_idle hb) 0⟩
    | true =>
      rw [engineSteps_succ hb] at h ⊢
      obtain ⟨k, hk⟩ := ih (engineStep s) h
      exact ⟨k + 1, (run_succ_of_step (step_poll_busy hb) k).trans hk⟩

/-- A bare write of a legal word to CMD of a ready engine is accepted (R185). -/
theorem step_issue {s : State} {v : BitVec 32} {i : Instr} {rest : List HostOp} (hr : s.ready = true)
    (hh : s.host = .write32 .regs 0x000 v :: rest) (hd : decode v = .legal i) :
    step s = .next (State.accept { s with host := rest } (v.setWidth 16) (uops i { s with host := rest })) := by
  rw [step_write32_ready hr hh rfl (by simp [State.windowSize]), State.writeWordAt, State.writeReg, if_pos rfl, State.issue, hd]

end Sys2Proof.Machine

open Sys2Proof Sys2Proof.Machine

/-- Settles O58: the list fixed at acceptance does the work of the command, and the engine performs it to its end. -/
theorem commandIsItsMicroOperations : Obligations.CommandIsItsMicroOperations :=
  fun i s word => exec_eq_engineSteps i s word

/-- Settles O59: acceptance, then polling, goes through the micro-operations of the command. -/
theorem issueAndPollEqualsTheCommand : Obligations.IssueAndPollEqualsTheCommand := by
  intro s t v i hr hh hd ht
  have hexec := exec_eq_engineSteps i { s with host := [] } (v.setWidth 16)
  rw [ht] at hexec
  injection hexec with ht'
  have hidle : t.busy = false := by
    rw [exec_eq] at ht
    injection ht with ht
    rw [← ht, busy_settle]
  obtain ⟨k, hk⟩ := run_poll _ _ (ht' ▸ hidle)
  rw [← ht'] at hk
  have huops : uops i { s with host := [.poll] } = uops i { s with host := [] } := by cases i <;> rfl
  refine ⟨k + 1, ?_⟩
  rw [run_succ_of_step (step_issue hr hh hd), huops]
  exact hk
end

section
/-! PROOFS. What a command may write and how it may end (the table of 10_state.md section 1, R180 to R188), and the statements
O25, O26 and O27. -/

namespace Sys2Proof.Machine

/-! ## Settling writes the flags and SEQ only -/

section Settle

variable (e : Effect)

@[simp] theorem settle_S : e.settle.S = e.state.S := by cases e <;> rfl
@[simp] theorem settle_w : e.settle.w = e.state.w := by cases e <;> rfl
@[simp] theorem settle_nr : e.settle.nr = e.state.nr := by cases e <;> rfl
@[simp] theorem settle_kvalid : e.settle.kvalid = e.state.kvalid := by cases e <;> rfl
@[simp] theorem settle_ilen : e.settle.ilen = e.state.ilen := by cases e <;> rfl
@[simp] theorem settle_olen : e.settle.olen = e.state.olen := by cases e <;> rfl
@[simp] theorem settle_bidx : e.settle.bidx = e.state.bidx := by cases e <;> rfl
@[simp] theorem settle_ibuf : e.settle.ibuf = e.state.ibuf := by cases e <;> rfl
@[simp] theorem settle_obuf : e.settle.obuf = e.state.obuf := by cases e <;> rfl
@[simp] theorem settle_key : e.settle.key = e.state.key := by cases e <;> rfl
@[simp] theorem settle_klen : e.settle.klen = e.state.klen := by cases e <;> rfl
@[simp] theorem settle_ks : e.settle.ks = e.state.ks := by cases e <;> rfl
@[simp] theorem settle_params : e.settle.params = e.state.params := by cases e <;> rfl
@[simp] theorem settle_epoch : e.settle.epoch = e.state.epoch := by cases e <;> rfl
@[simp] theorem settle_rdata : e.settle.rdata = e.state.rdata := by cases e <;> rfl
@[simp] theorem settle_cur : e.settle.cur = none := by cases e <;> rfl
@[simp] theorem settle_mi : e.settle.mi = 0 := by cases e <;> rfl
@[simp] theorem settle_plan : e.settle.plan = [] := by cases e <;> rfl

end Settle

/-! ## The pieces of state each command may write -/

/-- `t` has the input of `s`: ILEN and IBUF. -/
def SameInput (s t : State) : Prop := t.ilen = s.ilen ∧ t.ibuf = s.ibuf

/-- `t` differs from `s` at most in the pieces of state the table of 10_state.md section 1 lists for the work of a command. -/
def WorkWrites : Instr → State → State → Prop
  | .kexp, s, t => t = { s with w := t.w, nr := t.nr, kvalid := t.kvalid }
  | .sts, s, t => t = { s with obuf := t.obuf }
  | .frmE, s, t => t = { s with ibuf := t.ibuf, ilen := t.ilen }
  | .frmD, s, t => t = { s with olen := t.olen }
  | .runE, s, t => SameOutsideWork s t
  | .runD, s, t => SameOutsideWork s t ∧ SameInput s t
  | _, s, t => t = { s with S := t.S }

theorem SameInput.trans {s t u : State} (h1 : SameInput s t) (h2 : SameInput t u) : SameInput s u :=
  ⟨h2.1.trans h1.1, h2.2.trans h1.2⟩

/-- FRM.E is the only micro-operation that writes the input. -/
theorem microEffect_sameInput {u : MicroOp} (hu : u ≠ .frmE) (s : State) : SameInput s (microEffect u s).state := by
  cases u
  case frmE => exact absurd rfl hu
  case sts =>
    simp only [microEffect, stsEffect]
    split
    · exact ⟨rfl, rfl⟩
    · exact ⟨memWrite_obuf_ilen s _ _, memWrite_obuf_ibuf s _ _⟩
  all_goals
    simp only [microEffect, keyCheckEffect, ldsEffect, transformEffect, arkEffect, frmDEffect, preflightE, preflightD,
      State.setBidx, State.finishBlocks]
    (repeat' split) <;> exact ⟨rfl, rfl⟩

theorem ciphDEffect_writes (s : State) : (ciphDEffect s).state = { s with S := (ciphDEffect s).state.S } := by
  unfold ciphDEffect
  split <;> rfl

theorem ciphEEffect_writes (s : State) : (ciphEEffect s).state = { s with S := (ciphEEffect s).state.S } := by
  unfold ciphEEffect
  split <;> rfl

theorem runBlocks_sameInput {cipher : State → Effect} (hc : ∀ s, SameInput s (cipher s).state) (n b : Nat) (s : State) :
    SameInput s (runBlocks cipher n b s).state := by
  induction n generalizing b s with
  | zero => exact ⟨rfl, rfl⟩
  | succ n ih =>
    refine andThen_keeps (microEffect_sameInput (u := .lds) nofun (s.setBidx b)) fun t ht => ?_
    refine andThen_keeps (ht.trans (hc t)) fun u hu => ?_
    exact andThen_keeps (hu.trans (microEffect_sameInput (u := .sts) nofun u)) fun v hv => hv.trans (ih _ _)

theorem ciphDEffect_sameInput (s : State) : SameInput s (ciphDEffect s).state := by
  rw [ciphDEffect_writes]
  exact ⟨rfl, rfl⟩

theorem runDEffect_sameInput (s : State) : SameInput s (runDEffect s).state := by
  refine andThen_keeps (microEffect_sameInput (u := .preD) nofun s) fun t ht => ?_
  refine andThen_keeps (ht.trans (runBlocks_sameInput ciphDEffect_sameInput _ _ t.expandKey)) fun v hv => ?_
  exact hv.trans (microEffect_sameInput (u := .frmD) nofun (v.finishBlocks _))

theorem kexpEffect_writes (s : State) : WorkWrites .kexp s (kexpEffect s).state := by
  unfold kexpEffect keyCheckEffect
  split <;> rfl

theorem memWrite_obuf_writes (s : State) (a : Nat) (vs : List Byte) : WorkWrites .sts s (s.memWrite .obuf a vs) := rfl

theorem stsEffect_writes (s : State) : WorkWrites .sts s (stsEffect s).state := by
  simp only [stsEffect]
  split
  · rfl
  · exact memWrite_obuf_writes s _ _

theorem frmEEffect_writes (s : State) : WorkWrites .frmE s (frmEEffect s).state := by
  unfold frmEEffect
  split <;> rfl

theorem frmDEffect_writes (s : State) : WorkWrites .frmD s (frmDEffect s).state := by
  unfold frmDEffect
  (repeat' split) <;> rfl

theorem ldsEffect_writes (s : State) : WorkWrites .lds s (ldsEffect s).state := by
  simp only [ldsEffect]
  split <;> rfl

theorem arkEffect_writes (r : Nat) (s : State) : WorkWrites (.ark r) s (arkEffect r s).state := by
  unfold arkEffect
  (repeat' split) <;> rfl

/-- The work of every command writes the pieces of state listed for it and no other. -/
theorem commandEffect_writes (i : Instr) (s : State) : WorkWrites i s (commandEffect i s).state := by
  cases i
  case kexp => exact kexpEffect_writes s
  case lds => exact ldsEffect_writes s
  case sts => exact stsEffect_writes s
  case ark r => exact arkEffect_writes r s
  case ciphE => exact ciphEEffect_writes s
  case ciphD => exact ciphDEffect_writes s
  case frmE => exact frmEEffect_writes s
  case frmD => exact frmDEffect_writes s
  case runE => exact runEEffect_frame s
  case runD => exact ⟨runDEffect_frame s, runDEffect_sameInput s⟩
  all_goals rfl

/-- The same, piece of state by piece of state. -/
theorem WorkWrites.pieces {i : Instr} {s t : State} (h : WorkWrites i s t) :
    (i = .kexp ∨ i = .sts ∨ i = .frmE ∨ i = .frmD → t.S = s.S) ∧
    (i ≠ .kexp → i ≠ .runE → i ≠ .runD → t.w = s.w ∧ t.nr = s.nr ∧ t.kvalid = s.kvalid) ∧
    (i ≠ .frmE → i ≠ .runE → t.ilen = s.ilen ∧ t.ibuf = s.ibuf) ∧
    (i ≠ .frmD → i ≠ .runE → i ≠ .runD → t.olen = s.olen) ∧
    (i ≠ .sts → i ≠ .runE → i ≠ .runD → t.obuf = s.obuf) ∧
    (i ≠ .runE → i ≠ .runD → t.bidx = s.bidx) := by
  cases i
  case runE => simp
  case runD => simpa [SameInput] using h.2
  all_goals
    have e : t = _ := h
    rw [e]
    simp

/-- What a read of a buffer answers depends on the buffer and the epoch alone. -/
theorem readBuffer_congr {s t : State} {b : Buffer} (hm : t.bufferMemory b = s.bufferMemory b)
    (he : t.epoch = s.epoch) (a : Nat) : t.readBuffer b a = s.readBuffer b a := by
  rw [State.readBuffer, State.readBuffer, hm, he]

/-! ## How a command may end -/

/-- How an effect may end: the notice and an abort only where they are allowed, an abort with one of the values of R180 but
PVF, and a fatal entry with a cause a command has (R183, R184, R188). -/
def Effect.LegalEnd (notice abort : Prop) : Effect → Prop
  | .ok _ => True
  | .notice _ => notice
  | .error _ bits => abort ∧ (bits = 1 ∨ bits = 3 ∨ bits = 4 ∨ bits = 5 ∨ bits = 7)
  | .fatal _ c => 3 ≤ c.code.toNat

theorem andThen_legalEnd {n a : Prop} {e : Effect} {f : State → Effect} (he : e.LegalEnd n a)
    (hf : ∀ t, (f t).LegalEnd n a) : (e.andThen f).LegalEnd n a := by
  cases e with
  | ok t => exact hf t
  | notice t => exact he
  | error t bits => exact he
  | fatal t c => exact he

/-- The key checks find nothing, a key of the wrong length, or one that is too short as well (R84). -/
theorem keyCheck_cases (s : State) : s.keyCheck = 0 ∨ s.keyCheck = 1 ∨ s.keyCheck = 3 := by
  unfold State.keyCheck
  by_cases hlt : s.klen.toNat < keyBytes s.ks
  · have hne : s.klen.toNat ≠ keyBytes s.ks := Nat.ne_of_lt hlt
    simp only [hlt, hne, not_false_eq_true, ne_eq, decide_true]
    decide
  · by_cases heq : s.klen.toNat = keyBytes s.ks
    · simp only [heq, ne_eq, not_true_eq_false, Nat.lt_irrefl, decide_false]
      decide
    · simp only [hlt, heq, not_false_eq_true, ne_eq, decide_true, decide_false]
      decide

/-- The length check of RUN.D finds nothing or MCT (R162). -/
theorem lengthCheck_cases (s : State) : s.lengthCheck = 0 ∨ s.lengthCheck = 4 := by
  unfold State.lengthCheck
  cases decide (s.ilen % 16 ≠ 0) <;> decide

/-- The union of both checks, when it is not empty, is one of the values of R180 that aborts a command. -/
theorem checks_abort {s : State} (h : s.keyCheck ||| s.lengthCheck ≠ 0) :
    s.keyCheck ||| s.lengthCheck = 1 ∨ s.keyCheck ||| s.lengthCheck = 3 ∨ s.keyCheck ||| s.lengthCheck = 4 ∨
      s.keyCheck ||| s.lengthCheck = 5 ∨ s.keyCheck ||| s.lengthCheck = 7 := by
  have union : ∀ k l : BitVec 4, k = 0 ∨ k = 1 ∨ k = 3 → l = 0 ∨ l = 4 → k ||| l ≠ 0 →
      k ||| l = 1 ∨ k ||| l = 3 ∨ k ||| l = 4 ∨ k ||| l = 5 ∨ k ||| l = 7 := by decide
  exact union _ _ (keyCheck_cases s) (lengthCheck_cases s) h

section LegalEnds

variable {n a : Prop} (s : State)

theorem keyCheckEffect_legalEnd (ha : a) : (keyCheckEffect s).LegalEnd n a := by
  unfold keyCheckEffect
  split
  · trivial
  · next h =>
    obtain hk | hk | hk := keyCheck_cases s
    · exact absurd hk h
    · exact ⟨ha, .inl hk⟩
    · exact ⟨ha, .inr (.inl hk)⟩

theorem preflightE_legalEnd (ha : a) : (preflightE s).LegalEnd n a := by
  unfold preflightE
  split
  · simp [Effect.LegalEnd, FatalCause.code]
  · exact keyCheckEffect_legalEnd s ha

theorem preflightD_legalEnd (ha : a) : (preflightD s).LegalEnd n a := by
  simp only [preflightD]
  split
  · trivial
  · next h => split <;> exact ⟨ha, checks_abort h⟩

theorem ldsEffect_legalEnd : (ldsEffect s).LegalEnd n a := by
  simp only [ldsEffect]
  split <;> simp [Effect.LegalEnd, FatalCause.code]

theorem stsEffect_legalEnd : (stsEffect s).LegalEnd n a := by
  simp only [stsEffect]
  split <;> simp [Effect.LegalEnd, FatalCause.code]

theorem arkEffect_legalEnd (r : Nat) : (arkEffect r s).LegalEnd n a := by
  unfold arkEffect
  (repeat' split) <;> simp [Effect.LegalEnd, FatalCause.code]

theorem ciphEEffect_legalEnd : (ciphEEffect s).LegalEnd n a := by
  unfold ciphEEffect
  split <;> simp [Effect.LegalEnd, FatalCause.code]

theorem ciphDEffect_legalEnd : (ciphDEffect s).LegalEnd n a := by
  unfold ciphDEffect
  split <;> simp [Effect.LegalEnd, FatalCause.code]

theorem frmEEffect_legalEnd : (frmEEffect s).LegalEnd n a := by
  unfold frmEEffect
  split <;> simp [Effect.LegalEnd, FatalCause.code]

theorem frmDEffect_legalEnd (hn : n) : (frmDEffect s).LegalEnd n a := by
  unfold frmDEffect
  (repeat' split) <;> simp [Effect.LegalEnd, FatalCause.code, hn]

theorem runBlocks_legalEnd {cipher : State → Effect} (hc : ∀ s, (cipher s).LegalEnd n a) (k b : Nat) :
    (runBlocks cipher k b s).LegalEnd n a := by
  induction k generalizing b s with
  | zero => trivial
  | succ k ih =>
    exact andThen_legalEnd (ldsEffect_legalEnd _) fun t => andThen_legalEnd (hc t) fun u =>
      andThen_legalEnd (stsEffect_legalEnd u) fun v => ih v _

theorem runEEffect_legalEnd (ha : a) : (runEEffect s).LegalEnd n a :=
  andThen_legalEnd (preflightE_legalEnd s ha) fun _ => andThen_legalEnd (frmEEffect_legalEnd _) fun u =>
    andThen_legalEnd (runBlocks_legalEnd u ciphEEffect_legalEnd _ _) fun _ => trivial

theorem runDEffect_legalEnd (hn : n) (ha : a) : (runDEffect s).LegalEnd n a :=
  andThen_legalEnd (preflightD_legalEnd s ha) fun t =>
    andThen_legalEnd (runBlocks_legalEnd t.expandKey ciphDEffect_legalEnd _ _) fun _ => frmDEffect_legalEnd _ hn

/-- The notice comes from FRM.D and RUN.D only, an abort from KEXP, RUN.E and RUN.D only (R181, R183). -/
theorem commandEffect_legalEnd (i : Instr) :
    (commandEffect i s).LegalEnd (i = .frmD ∨ i = .runD) (i = .kexp ∨ i = .runE ∨ i = .runD) := by
  cases i
  case kexp => exact andThen_legalEnd (keyCheckEffect_legalEnd s (.inl rfl)) fun _ => trivial
  case lds => exact ldsEffect_legalEnd s
  case sts => exact stsEffect_legalEnd s
  case ark r => exact arkEffect_legalEnd s r
  case ciphE => exact ciphEEffect_legalEnd s
  case ciphD => exact ciphDEffect_legalEnd s
  case frmE => exact frmEEffect_legalEnd s
  case frmD => exact frmDEffect_legalEnd s (.inl rfl)
  case runE => exact runEEffect_legalEnd s (.inr (.inl rfl))
  case runD => exact runDEffect_legalEnd s (.inr rfl) (.inr (.inr rfl))
  all_goals trivial

/-- Every micro-operation ends legally. -/
theorem microEffect_legalEnd (u : MicroOp) : (microEffect u s).LegalEnd True True := by
  cases u
  case kchk => exact keyCheckEffect_legalEnd s trivial
  case lds => exact ldsEffect_legalEnd s
  case sts => exact stsEffect_legalEnd s
  case ark r => exact arkEffect_legalEnd s r
  case frmE => exact frmEEffect_legalEnd s
  case frmD => exact frmDEffect_legalEnd s trivial
  case preE => exact preflightE_legalEnd s trivial
  case preD => exact preflightD_legalEnd s trivial
  all_goals trivial

end LegalEnds

/-- The code of a cause is one of 1 to 6 (R188). -/
theorem code_range (c : FatalCause) : 1 ≤ c.code.toNat ∧ c.code.toNat ≤ 6 := by cases c <;> decide

end Sys2Proof.Machine

open Sys2Proof Sys2Proof.Machine

/-- Settles O25: the frame of the work of a command, which settling keeps. -/
theorem noCommandWritesKeyOrControl : Obligations.NoCommandWritesKeyOrControl := by
  intro i s t h
  rw [exec_eq] at h
  injection h with h
  rw [← h]
  simpa using (commandEffect_frame i s).untouched

/-- Settles O26: what the work of each command writes, piece of state by piece of state. -/
theorem commandsWriteOnlyTheirState : Obligations.CommandsWriteOnlyTheirState := by
  intro i s t h
  rw [exec_eq] at h
  injection h with h
  obtain ⟨hS, hw, hin, holen, hobuf, hbidx⟩ := (commandEffect_writes i s).pieces
  obtain ⟨-, -, -, -, hepoch, -⟩ := (commandEffect_frame i s).untouched
  rw [← settle_epoch, h] at hepoch
  simp only [← settle_S, ← settle_w, ← settle_nr, ← settle_kvalid, ← settle_ilen, ← settle_ibuf, ← settle_olen,
    ← settle_obuf, ← settle_bidx, h] at hS hw hin holen hobuf hbidx
  refine ⟨hS, hw, fun h1 h2 => ?_, holen, fun h1 h2 h3 => readBuffer_congr (hobuf h1 h2 h3) hepoch, hbidx⟩
  obtain ⟨hilen, hibuf⟩ := hin h1 h2
  exact ⟨hilen, readBuffer_congr hibuf hepoch⟩

/-- Settles O27, by how the work of the command ends. -/
theorem everyCommandEnds : Obligations.EveryCommandEnds := by
  intro i s
  refine ⟨_, exec_eq i s, settle_cur _, settle_mi _, settle_plan _, ?_⟩
  obtain ⟨-, hfatal, herr, hcause⟩ := (commandEffect_frame i s).flags
  have hend := commandEffect_legalEnd s i
  cases he : commandEffect i s with
  | ok t =>
    rw [he] at hfatal hcause
    exact .inl ⟨rfl, .inl rfl, hfatal, hcause⟩
  | notice t =>
    rw [he] at hfatal hcause hend
    exact .inl ⟨rfl, .inr ⟨rfl, hend⟩, hfatal, hcause⟩
  | error t bits =>
    rw [he] at hfatal hcause hend
    exact .inr (.inl ⟨rfl, hend.1, hend.2, hfatal, hcause⟩)
  | fatal t c =>
    rw [he] at herr hend
    exact .inr (.inr ⟨rfl, herr, rfl, hend, (code_range c).2⟩)
end

section
/-! PROOFS. What every step keeps. One step is a few kinds of act (`StepKeeps`), so an invariant is proved act by act: the
invariant of the machine, that of the schedule, and the state after reset. The statements O7, O10, O11, O12 and O60. -/

namespace Sys2Proof.Machine

/-! ## What a write of the host to a ready engine does -/

/-- `t` is `s` after the host has stored into KEY, S, the control registers or a buffer, inside the bounds of R18 and R20. -/
def HostStores (s t : State) : Prop :=
  t = { s with S := t.S, key := t.key, klen := t.klen, ks := t.ks, ilen := t.ilen, olen := t.olen, bidx := t.bidx,
               ibuf := t.ibuf, obuf := t.obuf } ∧
    (s.lengthsOk = true → t.lengthsOk = true) ∧ (s.buffersOk = true → t.buffersOk = true)

theorem HostStores.trans {s t u : State} (h1 : HostStores s t) (h2 : HostStores t u) : HostStores s u := by
  obtain ⟨e1, hl1, hb1⟩ := h1
  obtain ⟨e2, hl2, hb2⟩ := h2
  refine ⟨?_, hl2 ∘ hl1, hb2 ∘ hb1⟩
  rw [e2, e1]

theorem writeRegByte_stores (s : State) (off : Nat) (v : Byte) : HostStores s (s.writeRegByte off v) := by
  unfold State.writeRegByte
  (repeat' split) <;> exact ⟨rfl, id, id⟩

/-- The bound of the buffers, as propositions. -/
theorem buffersOk_iff {s : State} : s.buffersOk = true ↔
    s.ibuf.wf = true ∧ s.obuf.wf = true ∧ s.ibuf.below s.params.bufcap = true ∧ s.obuf.below s.params.bufcap = true := by
  simp only [State.buffersOk, Bool.and_eq_true, and_assoc]

/-- A write inside the capacity keeps both buffers canonical and inside it (R20). -/
theorem memWrite_buffersOk {s : State} (b : Buffer) {a : Nat} {vs : List Byte} (h : a + vs.length ≤ s.params.bufcap)
    (hs : s.buffersOk = true) : (s.memWrite b a vs).buffersOk = true := by
  obtain ⟨hi, ho, hib, hob⟩ := buffersOk_iff.1 hs
  refine buffersOk_iff.2 ?_
  cases b with
  | ibuf => exact ⟨wf_storeList _ _ _ hi, ho, below_storeList _ _ _ h hib, hob⟩
  | obuf => exact ⟨hi, wf_storeList _ _ _ ho, hib, below_storeList _ _ _ h hob⟩

theorem memWrite_stores {s : State} (b : Buffer) {a : Nat} {vs : List Byte} (h : a + vs.length ≤ s.params.bufcap) :
    HostStores s (s.memWrite b a vs) := by
  refine ⟨?_, ?_, memWrite_buffersOk b h⟩ <;> cases b
  · rfl
  · rfl
  · exact id
  · exact id

theorem writeByteAt_stores {s : State} {win : Window} {off : Nat} (h : off < s.windowSize win) (v : Byte) :
    HostStores s (s.writeByteAt win off v) := by
  cases win
  · exact writeRegByte_stores s off v
  · exact memWrite_stores .ibuf h
  · exact memWrite_stores .obuf h

/-- ILEN and OLEN are in 0..BUFCAP (R18), as propositions. -/
theorem lengthsOk_iff {s : State} : s.lengthsOk = true ↔ s.ilen ≤ s.params.bufcap ∧ s.olen ≤ s.params.bufcap := by
  simp [State.lengthsOk]

theorem writeReg_ilen_cases (s : State) (v : BitVec 32) :
    s.writeReg 0x018 v = s.enterFatal .range ∨ HostStores s (s.writeReg 0x018 v) := by
  rw [writeReg_ilen]
  obtain hv | hv := Nat.lt_or_ge s.params.bufcap v.toNat
  · exact .inl (writeLength_of_lt hv _)
  · rw [writeLength_of_le hv]
    exact .inr ⟨rfl, fun hl => lengthsOk_iff.2 ⟨hv, (lengthsOk_iff.1 hl).2⟩, id⟩

theorem writeReg_olen_cases (s : State) (v : BitVec 32) :
    s.writeReg 0x01C v = s.enterFatal .range ∨ HostStores s (s.writeReg 0x01C v) := by
  rw [writeReg_olen]
  obtain hv | hv := Nat.lt_or_ge s.params.bufcap v.toNat
  · exact .inl (writeLength_of_lt hv _)
  · rw [writeLength_of_le hv]
    exact .inr ⟨rfl, fun hl => lengthsOk_iff.2 ⟨(lengthsOk_iff.1 hl).1, hv⟩, id⟩

/-- A bare write of CMD to an idle engine is an acceptance or FC_ILLCMD (R21). -/
theorem issue_cases (s : State) (v : BitVec 32) :
    (∃ i, s.issue v = s.accept (v.setWidth 16) (uops i s)) ∨ s.issue v = s.enterFatal .illegalCommand := by
  unfold State.issue
  split
  · exact .inl ⟨_, rfl⟩
  · exact .inr rfl

/-- What a 32-bit write to the register block of an idle engine does (R18, R21, R27): an acceptance, a fatal entry, or a
store. -/
theorem writeReg_cases (s : State) (off : Nat) (v : BitVec 32) :
    (∃ i, s.writeReg off v = s.accept (v.setWidth 16) (uops i s)) ∨ (∃ c, s.writeReg off v = s.enterFatal c) ∨
      HostStores s (s.writeReg off v) := by
  by_cases hcmd : off = 0x000
  · subst hcmd
    exact (issue_cases s v).imp id fun h => .inl ⟨_, h⟩
  · by_cases hilen : off = 0x018
    · subst hilen
      exact .inr ((writeReg_ilen_cases s v).imp (fun h => ⟨_, h⟩) id)
    · by_cases holen : off = 0x01C
      · subst holen
        exact .inr ((writeReg_olen_cases s v).imp (fun h => ⟨_, h⟩) id)
      · refine .inr (.inr ?_)
        rw [State.writeReg, if_neg hcmd, if_neg hilen, if_neg holen]
        (repeat' split)
        · exact ⟨rfl, id, id⟩
        · exact ⟨rfl, id, id⟩
        · exact ⟨rfl, id, id⟩
        · exact (((writeRegByte_stores s _ _).trans (writeRegByte_stores _ _ _)).trans
            (writeRegByte_stores _ _ _)).trans (writeRegByte_stores _ _ _)

theorem writeWordAt_cases {s : State} {win : Window} {off : Nat} (h : off + 4 ≤ s.windowSize win) (v : BitVec 32) :
    (∃ i, s.writeWordAt win off v = s.accept (v.setWidth 16) (uops i s)) ∨
      (∃ c, s.writeWordAt win off v = s.enterFatal c) ∨ HostStores s (s.writeWordAt win off v) := by
  cases win
  · exact writeReg_cases s off v
  · exact .inr (.inr (memWrite_stores .ibuf h))
  · exact .inr (.inr (memWrite_stores .obuf h))

/-! ## What one step is made of -/

/-- A property that each kind of act keeps: the host's own list and answer, a micro-operation, a fatal entry, an acceptance, a
store of the host, the reset event. -/
structure StepKeeps (P : State → Prop) : Prop where
  bus : ∀ s ops answer, P s → P { s with host := ops, rdata := answer }
  engine : ∀ s, s.busy = true → P s → P (engineStep s)
  fatal : ∀ s c, P s → P (s.enterFatal c)
  accept : ∀ s word i, s.ready = true → P s → P (s.accept word (uops i s))
  store : ∀ s t, s.ready = true → HostStores s t → P s → P t
  reset : ∀ s, P s → P s.resetEvent

namespace StepKeeps

variable {P : State → Prop} {s t : State}

theorem engineSteps (h : StepKeeps P) (n : Nat) (hs : P s) : P (engineSteps n s) := by
  induction n generalizing s with
  | zero => exact hs
  | succ n ih =>
    cases hb : s.busy with
    | false => rwa [engineSteps_of_idle hb]
    | true =>
      rw [engineSteps_succ hb]
      exact ih (h.engine s hb hs)

/-- A whole command is an acceptance and micro-operations (R25). -/
theorem exec (h : StepKeeps P) {i : Instr} (hr : s.ready = true) (hs : P s) (ht : Machine.exec i s = .next t) : P t := by
  rw [exec_eq_engineSteps i s 0] at ht
  injection ht with ht
  exact ht ▸ h.engineSteps _ (h.accept s 0 i hr hs)

theorem engineTurn (h : StepKeeps P) (hs : P s) : P s.engineTurn := by
  unfold State.engineTurn
  split
  · next hb => exact h.engine s hb hs
  · exact hs

theorem answer (h : StepKeeps P) (hs : P s) (a : Option (BitVec 32)) : P { s with rdata := a } :=
  h.bus s s.host a hs

theorem hostRead (h : StepKeeps P) (hs : P s) (allowed : Bool) (v : BitVec 32) : P (s.hostRead allowed v) := by
  obtain ⟨-, -, e⟩ | e := hostRead_cases s allowed v <;> rw [e]
  · exact h.answer (h.fatal s _ hs) none
  · exact h.answer hs _

theorem hostWrite (h : StepKeeps P) (hs : P s) {go : State → State} (hgo : s.ready = true → P (go s)) :
    P (s.hostWrite go) := by
  obtain ⟨-, e⟩ | ⟨-, -, e⟩ | ⟨hb, hf, e⟩ := hostWrite_cases s go <;> rw [e]
  · exact h.fatal s _ hs
  · exact hs
  · exact hgo (ready_iff.2 ⟨hb, hf⟩)

theorem command (h : StepKeeps P) (hs : P s) {v : BitVec 32} (ht : s.command v = .next t) : P t := by
  obtain ⟨-, e⟩ | ⟨-, -, e⟩ | ⟨hb, hf, i, -, e⟩ | ⟨-, -, _, -, e⟩ := command_cases s v <;> rw [e] at ht
  · cases ht
    exact h.fatal s _ hs
  · cases ht
    exact hs
  · exact h.exec (ready_iff.2 ⟨hb, hf⟩) hs ht
  · cases ht
    exact h.fatal s _ hs

theorem writeWordAt (h : StepKeeps P) (hr : s.ready = true) (hs : P s) {win : Window} {off : Nat}
    (hw : off + 4 ≤ s.windowSize win) (v : BitVec 32) : P (s.writeWordAt win off v) := by
  obtain ⟨i, e⟩ | ⟨c, e⟩ | hst := writeWordAt_cases hw v
  · rw [e]
    exact h.accept s _ i hr hs
  · rw [e]
    exact h.fatal s c hs
  · exact h.store s _ hr hst hs

theorem poll (h : StepKeeps P) (hs : P s) :
    P (if s.busy then { engineStep s with host := .poll :: s.host } else s.hostRead true s.statusWord) := by
  split
  · next hb => exact h.bus (engineStep s) _ (engineStep s).rdata (h.engine s hb hs)
  · exact h.hostRead hs _ _

theorem hostAct (h : StepKeeps P) {op : HostOp} (hs : P s) (ht : hostAct op s = .next t) : P t := by
  cases op
  case cmd v => exact h.command hs ht
  case write32 win off v =>
    obtain ⟨-, hw, rfl⟩ := access32_next ht
    exact h.hostWrite hs fun hr => h.writeWordAt hr hs hw v
  case write8 win off v =>
    obtain ⟨hw, -, rfl⟩ := access8_next ht
    exact h.hostWrite hs fun hr => h.store s _ hr (writeByteAt_stores hw v) hs
  case read32 win off =>
    obtain ⟨-, -, rfl⟩ := access32_next ht
    exact h.hostRead hs _ _
  case read8 win off =>
    obtain ⟨-, -, rfl⟩ := access8_next ht
    exact h.hostRead hs _ _
  case poll =>
    cases ht
    exact h.poll hs
  case pass =>
    cases ht
    exact h.engineTurn hs
  case reset =>
    cases ht
    exact h.reset s hs

/-- Every step keeps what each kind of act keeps. -/
theorem step (h : StepKeeps P) (hs : P s) (ht : step s = .next t) : P t := by
  cases hh : s.host with
  | nil =>
    rw [step_nil hh] at ht
    cases ht
    exact h.engineTurn hs
  | cons op rest =>
    rw [step_cons hh] at ht
    exact h.hostAct (h.bus s rest s.rdata hs) ht

end StepKeeps

/-! ## The invariant of the machine -/

/-- The part of the invariant about the data: the parameters, the lengths, the buffers and the latches (R7, R17, R18, R20). -/
def State.DataOk (s : State) : Prop :=
  s.paramsOk = true ∧ s.lengthsOk = true ∧ s.buffersOk = true ∧ s.latchOk = true

theorem inv_iff {s : State} : s.Inv = true ↔ s.DataOk ∧ s.seqOk = true ∧ s.flagsOk = true := by
  simp only [State.Inv, State.DataOk, Bool.and_eq_true, and_assoc]

/-- SEQ of a busy engine (R25, R185). -/
theorem seqOk_of_busy {s : State} (hb : s.busy = true) :
    s.seqOk = true ↔ s.mi < s.plan.length ∧ s.done = false ∧ s.fatal = false := by
  obtain ⟨word, hcur⟩ := Option.isSome_iff_exists.1 hb
  simp [State.seqOk, hcur, and_assoc]

/-- The flags of an engine, as propositions. -/
theorem flagsOk_iff {s : State} : s.flagsOk = true ↔
    s.err ∈ [0#4, 1#4, 3#4, 4#4, 5#4, 7#4, 8#4] ∧ (s.done = true → s.err = 0 ∨ s.err = errPVF) ∧
      (s.fatal = true ↔ s.fcause ≠ 0) ∧ s.fcause.toNat ≤ 6 ∧ ¬ (s.done = true ∧ s.fatal = true) := by
  cases hd : s.done <;> cases hf : s.fatal <;> simp [State.flagsOk, hd, hf, and_assoc]

theorem latchOk_iff {s : State} : s.latchOk = true ↔
    (s.nr = 0 ∨ s.nr = 10 ∨ s.nr = 14) ∧ (s.kvalid = true → s.nr ≠ 0) := by
  cases hk : s.kvalid <;> simp [State.latchOk, hk, or_assoc]

/-! ### The data -/

/-- Clearing KVALID keeps the data. -/
theorem clearKey_dataOk {s : State} (h : s.DataOk) : State.DataOk { s with kvalid := false } := by
  obtain ⟨hp, hl, hb, hn⟩ := h
  exact ⟨hp, hl, hb, latchOk_iff.2 ⟨(latchOk_iff.1 hn).1, nofun⟩⟩

theorem latchSchedule_dataOk {s : State} (h : s.DataOk) : s.latchSchedule.DataOk := by
  obtain ⟨hp, hl, hb, -⟩ := h
  refine ⟨hp, hl, hb, latchOk_iff.2 ?_⟩
  rw [latchSchedule_nr, latchSchedule_kvalid]
  cases s.ks <;> decide

theorem keyCheckEffect_dataOk {s : State} (h : s.DataOk) : (keyCheckEffect s).state.DataOk := by
  unfold keyCheckEffect
  split
  · exact h
  · exact clearKey_dataOk h

theorem preflightE_dataOk {s : State} (h : s.DataOk) : (preflightE s).state.DataOk := by
  unfold preflightE
  split
  · exact h
  · exact keyCheckEffect_dataOk h

theorem preflightD_dataOk {s : State} (h : s.DataOk) : (preflightD s).state.DataOk := by
  simp only [preflightD]
  split
  · exact h
  · split
    · exact h
    · exact clearKey_dataOk h

theorem ldsEffect_dataOk {s : State} (h : s.DataOk) : (ldsEffect s).state.DataOk := by
  simp only [ldsEffect]
  split <;> exact h

theorem arkEffect_dataOk (r : Nat) {s : State} (h : s.DataOk) : (arkEffect r s).state.DataOk := by
  unfold arkEffect
  (repeat' split) <;> exact h

/-- A write inside the capacity keeps the data. -/
theorem memWrite_dataOk {s : State} (b : Buffer) {a : Nat} {vs : List Byte} (h : a + vs.length ≤ s.params.bufcap)
    (hs : s.DataOk) : (s.memWrite b a vs).DataOk := by
  obtain ⟨hp, hl, hb, hn⟩ := hs
  have hbuf := memWrite_buffersOk b h hb
  cases b <;> exact ⟨hp, hl, hbuf, hn⟩

/-- STS stores inside OBUF or not at all (R102). -/
theorem stsEffect_dataOk {s : State} (h : s.DataOk) : (stsEffect s).state.DataOk := by
  simp only [stsEffect]
  split
  · exact h
  · next hfits =>
    refine memWrite_dataOk .obuf ?_ h
    rw [blockBytes_length]
    omega

/-- FRM.E pads inside IBUF or not at all (R141). -/
theorem frmEEffect_dataOk {s : State} (h : s.DataOk) : (frmEEffect s).state.DataOk := by
  obtain ⟨hp, hl, hb, hn⟩ := h
  unfold frmEEffect
  split
  · exact ⟨hp, hl, hb, hn⟩
  · next hfits =>
    have hlen : s.paddedLength ≤ s.params.bufcap := by simpa [State.paddingFits] using hfits
    refine ⟨hp, lengthsOk_iff.2 ⟨hlen, (lengthsOk_iff.1 hl).2⟩, memWrite_buffersOk .ibuf ?_ hb, hn⟩
    rw [List.length_replicate]
    exact hlen

/-- FRM.D lowers OLEN or leaves it (R144). -/
theorem frmDEffect_dataOk {s : State} (h : s.DataOk) : (frmDEffect s).state.DataOk := by
  obtain ⟨hp, hl, hb, hn⟩ := h
  obtain ⟨hilen, holen⟩ := lengthsOk_iff.1 hl
  unfold frmDEffect
  (repeat' split)
  · exact ⟨hp, hl, hb, hn⟩
  · exact ⟨hp, lengthsOk_iff.2 ⟨hilen, Nat.le_trans (Nat.sub_le _ _) holen⟩, hb, hn⟩
  · exact ⟨hp, hl, hb, hn⟩

theorem finishBlocks_dataOk {s : State} (h : s.DataOk) (n : Nat) : (s.finishBlocks n).DataOk := by
  obtain ⟨hp, hl, hb, hn⟩ := h
  obtain ⟨hilen, -⟩ := lengthsOk_iff.1 hl
  exact ⟨hp, lengthsOk_iff.2 ⟨hilen, hilen⟩, hb, hn⟩

/-- Every micro-operation keeps the data. -/
theorem microEffect_dataOk (u : MicroOp) {s : State} (h : s.DataOk) : (microEffect u s).state.DataOk := by
  cases u
  case kchk => exact keyCheckEffect_dataOk h
  case kld => exact clearKey_dataOk h
  case kfin => exact latchSchedule_dataOk h
  case lds => exact ldsEffect_dataOk h
  case sts => exact stsEffect_dataOk h
  case ark r => exact arkEffect_dataOk r h
  case frmE => exact frmEEffect_dataOk h
  case frmD => exact frmDEffect_dataOk h
  case preE => exact preflightE_dataOk h
  case preD => exact preflightD_dataOk h
  case fin n => exact finishBlocks_dataOk h n
  all_goals exact h

/-- How a command ends leaves the data as the work has left it. -/
theorem settle_dataOk {e : Effect} (h : e.state.DataOk) : e.settle.DataOk := by cases e <;> exact h

/-! ### SEQ and the flags -/

theorem settle_seqOk (e : Effect) : e.settle.seqOk = true := by cases e <;> rfl

/-- A fatal entry leaves legal flags, with any cause (R187). -/
theorem enterFatal_flagsOk {s : State} (h : s.flagsOk = true) (c : FatalCause) : (s.enterFatal c).flagsOk = true := by
  obtain ⟨herr, -, -, -, -⟩ := flagsOk_iff.1 h
  have hcode : c.code ≠ 0 := by cases c <;> decide
  exact flagsOk_iff.2 ⟨herr, nofun, ⟨fun _ => hcode, fun _ => rfl⟩, (code_range c).2, nofun⟩

/-- A legal end of a command that was not in the FATAL state leaves legal flags (R183, R184, R187). -/
theorem settle_flagsOk {e : Effect} (h : e.state.flagsOk = true) (hf : e.state.fatal = false)
    (he : e.LegalEnd True True) : e.settle.flagsOk = true := by
  obtain ⟨-, -, hcause, hle, -⟩ := flagsOk_iff.1 h
  have hnot : ¬ (true = true ∧ e.state.fatal = true) := fun h => absurd (hf.symm.trans h.2) nofun
  cases e with
  | ok t => exact flagsOk_iff.2 ⟨by simp [Effect.settle], fun _ => .inl rfl, hcause, hle, hnot⟩
  | notice t => exact flagsOk_iff.2 ⟨by simp [Effect.settle, errPVF], fun _ => .inr rfl, hcause, hle, hnot⟩
  | error t bits =>
    refine flagsOk_iff.2 ⟨?_, nofun, hcause, hle, nofun⟩
    obtain ⟨-, rfl | rfl | rfl | rfl | rfl⟩ := he <;> simp [Effect.settle]
  | fatal t c => exact enterFatal_flagsOk h c

theorem settle_inv {e : Effect} (hd : e.state.DataOk) (h : e.state.flagsOk = true) (hf : e.state.fatal = false)
    (he : e.LegalEnd True True) : e.settle.Inv = true :=
  inv_iff.2 ⟨settle_dataOk hd, settle_seqOk e, settle_flagsOk h hf he⟩

/-- The work of a command writes no flag, so it keeps them legal. -/
theorem SameOutsideWork.flagsOk {s t : State} (h : SameOutsideWork s t) (hs : s.flagsOk = true) : t.flagsOk = true := by
  obtain ⟨hdone, hfatal, herr, hcause⟩ := h.flags
  rwa [State.flagsOk, hdone, hfatal, herr, hcause]

/-- MI moves on inside the list, or the command is done (R25). -/
theorem advance_inv {t : State} (hb : t.busy = true) (hd : t.DataOk) (h : t.flagsOk = true) (hdone : t.done = false)
    (hf : t.fatal = false) : t.advance.Inv = true := by
  unfold State.advance
  split
  · next hmore => exact inv_iff.2 ⟨hd, (seqOk_of_busy (by exact hb)).2 ⟨hmore, hdone, hf⟩, h⟩
  · exact settle_inv (e := .ok t) hd h hf trivial

/-- A micro-operation keeps the invariant. -/
theorem engineStep_inv {s : State} (hb : s.busy = true) (hs : s.Inv = true) : (engineStep s).Inv = true := by
  obtain ⟨hdata, hseq, hflags⟩ := inv_iff.1 hs
  obtain ⟨-, hdone, hfatal⟩ := (seqOk_of_busy hb).1 hseq
  obtain e | ⟨u, -, ⟨t, ht, e⟩ | ⟨-, e⟩⟩ := engineStep_cases s <;> rw [e]
  · exact settle_inv (e := .ok s) hdata hflags hfatal trivial
  · have hframe := microEffect_ok_frame ht
    obtain ⟨htdone, htfatal, -⟩ := hframe.flags
    have hdata' := microEffect_dataOk u hdata
    rw [ht] at hdata'
    exact advance_inv (busy_of_cur_eq hframe.seq.1 ▸ hb) hdata' (hframe.flagsOk hflags) (htdone.trans hdone)
      (htfatal.trans hfatal)
  · have hframe := microEffect_frame u s
    obtain ⟨-, htfatal, -⟩ := hframe.flags
    exact settle_inv (microEffect_dataOk u hdata) (hframe.flagsOk hflags) (htfatal.trans hfatal)
      (microEffect_legalEnd s u)

/-- Acceptance (R185). -/
theorem accept_inv {s : State} (hr : s.ready = true) (hs : s.Inv = true) (word : BitVec 16) {us : List MicroOp}
    (hne : us ≠ []) : (s.accept word us).Inv = true := by
  obtain ⟨hdata, -, hflags⟩ := inv_iff.1 hs
  obtain ⟨-, hf⟩ := ready_iff.1 hr
  obtain ⟨herr, -, hcause, hle, -⟩ := flagsOk_iff.1 hflags
  exact inv_iff.2 ⟨hdata, (seqOk_of_busy rfl).2 ⟨List.length_pos_iff.2 hne, rfl, hf⟩,
    flagsOk_iff.2 ⟨herr, nofun, hcause, hle, nofun⟩⟩

theorem store_inv {s t : State} (hst : HostStores s t) (hs : s.Inv = true) : t.Inv = true := by
  obtain ⟨e, hl, hb⟩ := hst
  obtain ⟨⟨hp, hlen, hbuf, hn⟩, hseq, hflags⟩ := inv_iff.1 hs
  refine inv_iff.2 ⟨⟨?_, hl hlen, hb hbuf, ?_⟩, ?_, ?_⟩ <;> rw [e]
  · exact hp
  · exact hn
  · exact hseq
  · exact hflags

/-- The reset event leaves the parameters, and everything else at its reset value (R29, R210). -/
theorem resetEvent_inv {s : State} (hs : s.Inv = true) : s.resetEvent.Inv = true := by
  obtain ⟨⟨hp, -, -, -⟩, -, -⟩ := inv_iff.1 hs
  exact inv_iff.2 ⟨⟨hp, lengthsOk_iff.2 ⟨Nat.zero_le _, Nat.zero_le _⟩, rfl, rfl⟩, rfl, rfl⟩

theorem inv_stepKeeps : StepKeeps fun s => s.Inv = true where
  bus _ _ _ h := h
  engine _ hb h := engineStep_inv hb h
  fatal s c h := by
    obtain ⟨hd, -, hf⟩ := inv_iff.1 h
    exact inv_iff.2 ⟨hd, rfl, enterFatal_flagsOk hf c⟩
  accept s word i hr h := accept_inv hr h word (uops_ne_nil i s)
  store _ _ _ hst h := store_inv hst h
  reset _ h := resetEvent_inv h

/-! ## The invariant of the schedule -/

/-- The end of a command keeps W, NR and KVALID, and leaves no list to go on with. -/
theorem settle_scheduleInv {e : Effect} (h : e.state.scheduleOk) : e.settle.scheduleInv := by
  cases e <;> exact ⟨h, nofun⟩

/-- MI moves on to a rest of the list that fits the words generated so far, or the command is done. -/
theorem advance_scheduleInv {t : State} {known : Option Nat} (h : t.scheduleOk) (hp : t.progressHolds known)
    (hrest : planKeepsSchedule t.ks known (t.plan.drop (t.mi + 1)) = true) : t.advance.scheduleInv := by
  unfold State.advance
  split
  · exact ⟨h, fun _ => ⟨known, hrest, hp⟩⟩
  · exact settle_scheduleInv (e := .ok t) h

/-- A micro-operation keeps the invariant of the schedule: the one at MI fits the words generated so far. -/
theorem engineStep_scheduleInv {s : State} (hb : s.busy = true) (hs : s.scheduleInv) : (engineStep s).scheduleInv := by
  obtain ⟨hok, hrest⟩ := hs
  obtain ⟨known, hplan, hprog⟩ := hrest hb
  obtain e | ⟨u, hu, hcase⟩ := engineStep_cases s
  · rw [e]
    exact settle_scheduleInv (e := .ok s) hok
  · obtain ⟨hmi, hget⟩ := List.getElem?_eq_some_iff.1 hu
    rw [List.drop_eq_getElem_cons hmi, hget] at hplan
    obtain ⟨known', hfit, hplan'⟩ := planKeeps_cons.1 hplan
    obtain ⟨hok', hprog'⟩ := microEffect_keeps_schedule hok hprog hfit
    obtain ⟨t, ht, e⟩ | ⟨-, e⟩ := hcase <;> rw [e]
    · have hframe := microEffect_ok_frame ht
      obtain ⟨-, htmi, htplan⟩ := hframe.seq
      obtain ⟨-, -, hks, -⟩ := hframe.untouched
      rw [ht] at hok' hprog'
      refine advance_scheduleInv hok' hprog' ?_
      rw [hks, htplan, htmi]
      exact hplan'
    · exact settle_scheduleInv hok'

theorem scheduleInv_stepKeeps : StepKeeps State.scheduleInv where
  bus _ _ _ h := h
  engine _ hb h := engineStep_scheduleInv hb h
  fatal s c h := ⟨h.1, nofun⟩
  accept s word i _ h := ⟨h.1, fun _ => ⟨none, planKeeps_uops i s, nofun⟩⟩
  store s t hr hst h := by
    obtain ⟨e, -, -⟩ := hst
    obtain ⟨hb, -⟩ := ready_iff.1 hr
    rw [e]
    exact ⟨h.1, fun hb' => absurd (hb.symm.trans hb') nofun⟩
  reset s h := ⟨nofun, nofun⟩

end Sys2Proof.Machine

open Sys2Proof Sys2Proof.Machine

/-- Settles O11, act by act. -/
theorem everyStepKeepsTheInvariant : Obligations.EveryStepKeepsTheInvariant :=
  fun _ _ hs ht => inv_stepKeeps.step hs ht

/-- Settles O12, act by act. -/
theorem everyStepKeepsTheSchedule : Obligations.EveryStepKeepsTheSchedule :=
  fun _ _ hs ht => scheduleInv_stepKeeps.step hs ht

/-- Settles O10: after reset no schedule is valid and no command is in progress. -/
theorem invariantHoldsAtReset : Obligations.InvariantHoldsAtReset :=
  ⟨by decide, nofun, nofun⟩

/-- Settles O7: the register files are filled with zeros, the other fields are zero by definition. -/
theorem resetLeavesTheResetValues : Obligations.ResetLeavesTheResetValues := by
  have hkey : ∀ j, j < 32 → State.reset.keyByte j = 0x00#8 := by decide
  have hw : ∀ i k, i < 60 → wordByte (scheduleWord State.reset.w i) k = 0x00#8 := fun i k hi => by
    have hzero : scheduleWord State.reset.w i = Word.zero := by
      simp [scheduleWord, State.reset, State.resetWith, hi]
    rw [hzero]
    revert k
    decide
  refine ⟨by decide, hkey, rfl, rfl, hw, ?_⟩
  decide
/-- Settles O60: a busy engine ends in a settled state after the rest of its list; an idle one is at rest. -/
theorem busyEngineComesToRest : Obligations.BusyEngineComesToRest := by
  intro s hinv
  cases hb : s.busy with
  | false => rw [engineSteps_of_idle hb, hb]
  | true =>
    obtain ⟨-, hseq, -⟩ := inv_iff.1 hinv
    obtain ⟨hmi, -, -⟩ := (seqOk_of_busy hb).1 hseq
    have hne : s.plan.drop s.mi ≠ [] := by simpa using hmi
    rw [← List.length_drop, engineSteps_eq_settle hb rfl hne, busy_settle]
end

section
/-! PROOFS. The properties of the tables (R36), and the statement O40. -/

namespace Sys2Proof.Machine

/-! ## Linearity of the multiplication tables -/

theorem mul2_xor (a b : Byte) : mul2 (a ^^^ b) = mul2 a ^^^ mul2 b := by simp only [mul2_eq, gfMul_xor]
theorem mul3_xor (a b : Byte) : mul3 (a ^^^ b) = mul3 a ^^^ mul3 b := by simp only [mul3_eq, gfMul_xor]
theorem mul9_xor (a b : Byte) : mul9 (a ^^^ b) = mul9 a ^^^ mul9 b := by simp only [mul9_eq, gfMul_xor]
theorem mul11_xor (a b : Byte) : mul11 (a ^^^ b) = mul11 a ^^^ mul11 b := by simp only [mul11_eq, gfMul_xor]
theorem mul13_xor (a b : Byte) : mul13 (a ^^^ b) = mul13 a ^^^ mul13 b := by simp only [mul13_eq, gfMul_xor]
theorem mul14_xor (a b : Byte) : mul14 (a ^^^ b) = mul14 a ^^^ mul14 b := by simp only [mul14_eq, gfMul_xor]

/-! ## The product of the two matrices

The matrices of R107 and R108 are circulant, so their product is fixed by its first row, which is 1, 0, 0, 0. -/

theorem invMix_mix_own : ∀ b : Byte, mul14 (mul2 b) ^^^ mul11 b ^^^ mul13 b ^^^ mul9 (mul3 b) = b := by decide +kernel

theorem invMix_mix_next : ∀ b : Byte, mul14 (mul3 b) ^^^ mul11 (mul2 b) ^^^ mul13 b ^^^ mul9 b = 0 := by
  decide +kernel

theorem invMix_mix_second : ∀ b : Byte, mul14 b ^^^ mul11 (mul3 b) ^^^ mul13 (mul2 b) ^^^ mul9 b = 0 := by
  decide +kernel

theorem invMix_mix_third : ∀ b : Byte, mul14 b ^^^ mul11 b ^^^ mul13 (mul3 b) ^^^ mul9 (mul2 b) = 0 := by
  decide +kernel

/-- A row of the product applied to a column, its own entry first. -/
theorem invMix_mix_row (a b c d : Byte) :
    mul14 (mul2 a ^^^ mul3 b ^^^ c ^^^ d) ^^^ mul11 (a ^^^ mul2 b ^^^ mul3 c ^^^ d) ^^^
      mul13 (a ^^^ b ^^^ mul2 c ^^^ mul3 d) ^^^ mul9 (mul3 a ^^^ b ^^^ c ^^^ mul2 d) = a := by
  calc _ = (mul14 (mul2 a) ^^^ mul11 a ^^^ mul13 a ^^^ mul9 (mul3 a)) ^^^
          (mul14 (mul3 b) ^^^ mul11 (mul2 b) ^^^ mul13 b ^^^ mul9 b) ^^^
          (mul14 c ^^^ mul11 (mul3 c) ^^^ mul13 (mul2 c) ^^^ mul9 c) ^^^
          (mul14 d ^^^ mul11 d ^^^ mul13 (mul3 d) ^^^ mul9 (mul2 d)) := by
        simp only [mul14_xor, mul11_xor, mul13_xor, mul9_xor]
        ac_rfl
    _ = a := by simp [invMix_mix_own, invMix_mix_next, invMix_mix_second, invMix_mix_third]

/-- InvMixColumns undoes MixColumns on a column (R36 (c)). -/
theorem invMixColumn_mixColumn (c : Word) : invMixColumn (mixColumn c) = c := by
  obtain ⟨b0, b1, b2, b3⟩ := c
  simp only [invMixColumn, mixColumn, Word.mk.injEq]
  refine ⟨invMix_mix_row b0 b1 b2 b3, ?_, ?_, ?_⟩
  · exact Eq.trans (by ac_rfl) (invMix_mix_row b1 b2 b3 b0)
  · exact Eq.trans (by ac_rfl) (invMix_mix_row b2 b3 b0 b1)
  · exact Eq.trans (by ac_rfl) (invMix_mix_row b3 b0 b1 b2)

end Sys2Proof.Machine

open Sys2Proof Sys2Proof.Machine

/-- Settles O40: the S-boxes by their entries, the columns by the product of the matrices, the products by their formula. -/
theorem tableProperties : Obligations.TableProperties :=
  ⟨fun b => ⟨sboxInv_sbox b, sbox_sboxInv b⟩, by decide, by decide, invMixColumn_mixColumn,
    fun a b => ⟨mul2_xor a b, mul3_xor a b, mul9_xor a b, mul11_xor a b, mul13_xor a b, mul14_xor a b⟩, by decide⟩
end

section
/-! PROOFS. What a host access that has no meaning does (U4, R42), the little-endian 32-bit view of four bytes (R41), and the
statements O16, O22. -/

namespace Sys2Proof.Machine

/-! ## Accesses that stop -/

section Accesses

variable {s : State} {win : Window} {off : Nat}

/-- A 32-bit access at no multiple of 4 is refused (U4, R42). -/
theorem access32_misaligned (ha : off % 4 ≠ 0) (go : State) :
    s.access32 win off go = .refused (.misalignedAccess win off) := if_pos ha

/-- A 32-bit access that reaches beyond its window faults (R20, R27). -/
theorem access32_outside (ha : off % 4 = 0) (hw : s.windowSize win < off + 4) (go : State) :
    s.access32 win off go = .fault (.noSuchAddress win off) := by
  rw [State.access32, if_neg fun hne => hne ha, if_pos hw]

/-- A byte access beyond its window faults (R20, R27). -/
theorem access8_outside (hw : s.windowSize win ≤ off) (go : State) :
    s.access8 win off go = .fault (.noSuchAddress win off) := if_pos hw

/-- A byte access to one of the 32-bit registers is refused (U4, R28 (e)). -/
theorem access8_register (hr : win = .regs) (hoff : off < 0x024) (go : State) :
    s.access8 win off go = .refused (.byteAccessToRegister off) := by
  have hw : ¬ s.windowSize win ≤ off := by
    simp only [hr, State.windowSize]
    omega
  rw [State.access8, if_neg hw, if_pos ⟨hr, hoff⟩]

end Accesses

/-! ## Four bytes of a 32-bit value -/

/-- Byte `k` of four packed bytes is the byte that was packed there (R41). -/
theorem unpackByte_packBytes (f : Nat → Byte) {k : Nat} (hk : k < 4) : unpackByte (packBytes f) k = f k := by
  unfold unpackByte packBytes
  match k, hk with
  | 0, _ => exact BitVec.extractLsb'_append_eq_right
  | 1, _ =>
    rw [BitVec.extractLsb'_append_eq_of_le (by decide)]
    exact BitVec.extractLsb'_append_eq_right
  | 2, _ =>
    rw [BitVec.extractLsb'_append_eq_of_le (by decide), BitVec.extractLsb'_append_eq_of_le (by decide)]
    exact BitVec.extractLsb'_append_eq_right
  | 3, _ =>
    rw [BitVec.extractLsb'_append_eq_of_le (by decide), BitVec.extractLsb'_append_eq_of_le (by decide),
      BitVec.extractLsb'_append_eq_of_le (by decide)]
    exact BitVec.extractLsb'_eq_self

/-- A 32-bit read is made of four byte reads, in a buffer and beyond the 32-bit registers (R41). -/
theorem readWordAt_eq_packBytes (s : State) {win : Window} {off : Nat} (h : win = .regs → 0x024 ≤ off) :
    s.readWordAt win off = packBytes fun k => s.readByteAt win (off + k) := by
  cases win with
  | regs => exact readReg_bytes s (h rfl)
  | ibuf => rfl
  | obuf => rfl

/-! ## Four byte writes -/

/-- Four writes of a byte at consecutive places, the last one first, as one write of a range. -/
theorem ite_fourPlaces {α : Type} (f : Nat → α) (d : α) (a x : Nat) :
    (if x = a + 3 then f 3 else if x = a + 2 then f 2 else if x = a + 1 then f 1 else if x = a then f 0 else d) =
      if a ≤ x ∧ x < a + 4 then f (x - a) else d := by
  by_cases hx : a ≤ x ∧ x < a + 4
  · obtain ⟨k, rfl⟩ := Nat.exists_eq_add_of_le hx.1
    have hk : k < 4 := by omega
    rw [if_pos hx, Nat.add_sub_cancel_left]
    match k, hk with
    | 0, _ | 1, _ | 2, _ | 3, _ => simp
  · rw [if_neg hx, if_neg (by omega), if_neg (by omega), if_neg (by omega), if_neg (by omega)]

/-- Writes the four bytes of a 32-bit value to KEY, the lowest at KEY[j] (R41). -/
def State.setKeyWord (s : State) (j : Nat) (v : BitVec 32) : State :=
  (((s.setKeyByte j (unpackByte v 0)).setKeyByte (j + 1) (unpackByte v 1)).setKeyByte (j + 2)
    (unpackByte v 2)).setKeyByte (j + 3) (unpackByte v 3)

/-- Replaces four bytes of the linear view of the state by those of a 32-bit value (R41). -/
def setBlockWord (b : Block) (k : Nat) (v : BitVec 32) : Block :=
  setBlockByte (setBlockByte (setBlockByte (setBlockByte b k (unpackByte v 0)) (k + 1) (unpackByte v 1)) (k + 2)
    (unpackByte v 2)) (k + 3) (unpackByte v 3)

/-- Beyond the nine 32-bit registers a write of a word is four byte writes (R27). -/
theorem writeReg_bytes (s : State) {off : Nat} (h : 0x024 ≤ off) (v : BitVec 32) :
    s.writeReg off v = (((s.writeRegByte off (unpackByte v 0)).writeRegByte (off + 1) (unpackByte v 1)).writeRegByte
      (off + 2) (unpackByte v 2)).writeRegByte (off + 3) (unpackByte v 3) := by
  have hne : ∀ a, a < 0x024 → off ≠ a := fun a ha => by omega
  simp [State.writeReg, hne]

theorem writeReg_key (s : State) {j : Nat} (hj : j + 4 ≤ 32) (v : BitVec 32) :
    s.writeReg (0x040 + j) v = s.setKeyWord j v := by
  rw [writeReg_bytes s (by omega), Nat.add_assoc, Nat.add_assoc, Nat.add_assoc, writeRegByte_key _ (by omega),
    writeRegByte_key _ (by omega), writeRegByte_key _ (by omega), writeRegByte_key _ (by omega), State.setKeyWord]

theorem writeReg_S (s : State) {k : Nat} (hk : k + 4 ≤ 16) (v : BitVec 32) :
    s.writeReg (0x060 + k) v = { s with S := setBlockWord s.S k v } := by
  rw [writeReg_bytes s (by omega), Nat.add_assoc, Nat.add_assoc, Nat.add_assoc, writeRegByte_S _ (by omega),
    writeRegByte_S _ (by omega), writeRegByte_S _ (by omega), writeRegByte_S _ (by omega), setBlockWord]

/-- A read of KEY after a write of a word of it (R13, R41). -/
theorem keyByte_setKeyWord (s : State) {j : Nat} (hj : j + 4 ≤ 32) (v : BitVec 32) (x : Nat) :
    (s.setKeyWord j v).keyByte x = if j ≤ x ∧ x < j + 4 then unpackByte v (x - j) else s.keyByte x := by
  rw [State.setKeyWord, keyByte_setKeyByte _ (by omega), keyByte_setKeyByte _ (by omega),
    keyByte_setKeyByte _ (by omega), keyByte_setKeyByte _ (by omega), ite_fourPlaces (unpackByte v)]

/-- A read of S after a write of one byte of its linear view (R12). -/
theorem blockByte_setBlockByte_linear (b : Block) (k : Nat) (v : Byte) (r c : Fin 4) :
    blockByte (setBlockByte b k v) r c = if r.val + 4 * c.val = k then v else blockByte b r c := by
  have hplace : (r.val = k % 4 ∧ c.val = k / 4) ↔ r.val + 4 * c.val = k := by omega
  simp only [setBlockByte, blockByte_blockOf, hplace]

/-- A read of S after a write of a word of its linear view (R12, R41). -/
theorem blockByte_setBlockWord (b : Block) (k : Nat) (v : BitVec 32) (r c : Fin 4) :
    blockByte (setBlockWord b k v) r c =
      if k ≤ r.val + 4 * c.val ∧ r.val + 4 * c.val < k + 4 then unpackByte v (r.val + 4 * c.val - k)
      else blockByte b r c := by
  simp only [setBlockWord, blockByte_setBlockByte_linear]
  exact ite_fourPlaces (unpackByte v) (blockByte b r c) k _

/-- A read of a buffer after a write of a word of it (R20, R41). -/
theorem readBuffer_memWrite_word (s : State) (b : Buffer) (a : Nat) (v : BitVec 32) (x : Nat) :
    (s.memWrite b a ((List.range 4).map (unpackByte v))).readBuffer b x =
      if a ≤ x ∧ x < a + 4 then unpackByte v (x - a) else s.readBuffer b x := by
  rw [readBuffer_memWrite]
  by_cases hx : a ≤ x ∧ x < a + 4
  · have hk : x - a < 4 := by omega
    simp [hx, hk]
  · simp [hx]

end Sys2Proof.Machine

open Sys2Proof Sys2Proof.Machine

/-- Settles O16: the shape of the access is looked at before the state of the engine. -/
theorem accessesWithoutMeaningStop : Obligations.AccessesWithoutMeaningStop := by
  intro s win off rest
  refine ⟨fun v hh => ?_, fun hh => ?_, fun v hh => ?_, fun hh => ?_⟩ <;> rw [step_cons hh, hostAct]
  · exact ⟨fun ha => access32_misaligned ha _, fun ha hw => access32_outside ha (by exact hw) _⟩
  · exact ⟨fun ha => access32_misaligned ha _, fun ha hw => access32_outside ha (by exact hw) _⟩
  · exact ⟨fun hw => access8_outside (by exact hw) _, fun hr hoff => access8_register hr hoff _⟩
  · exact ⟨fun hw => access8_outside (by exact hw) _, fun hr hoff => access8_register hr hoff _⟩

/-- Settles O22: a word read is four packed byte reads, a word write is four byte writes. -/
theorem wordViewIsLittleEndian : Obligations.WordViewIsLittleEndian := by
  refine ⟨fun s win off _ hr k hk => ?_, fun s win off rest hb ha hw hh => step_read32_idle hb hh ha hw,
    fun s off v rest hs ha => ⟨fun hlo hhi hh => ?_, fun hlo hhi hh => ?_, fun hw hh => ?_, fun hw hh => ?_⟩⟩
  · rw [readWordAt_eq_packBytes s fun hwin => by have := hr hwin; omega]
    exact unpackByte_packBytes _ hk
  · rw [step_write32_ready hs hh ha (by simp only [State.windowSize]; omega)]
    obtain ⟨j, rfl⟩ := Nat.exists_eq_add_of_le hlo
    have hj : j + 4 ≤ 32 := by omega
    refine ⟨_, rfl, ?_, fun x => ?_⟩ <;> rw [State.writeWordAt, writeReg_key _ hj]
    · rfl
    · simp only [keyByte_setKeyWord _ hj, Nat.add_assoc, Nat.add_le_add_iff_left, Nat.add_lt_add_iff_left,
        Nat.add_sub_add_left]
      rfl
  · rw [step_write32_ready hs hh ha (by simp only [State.windowSize]; omega)]
    obtain ⟨k, rfl⟩ := Nat.exists_eq_add_of_le hlo
    have hk : k + 4 ≤ 16 := by omega
    refine ⟨_, rfl, ?_, ?_⟩ <;> rw [State.writeWordAt, writeReg_S _ hk]
    rintro r c _ rfl
    simp only [blockByte_setBlockWord, Nat.add_assoc, Nat.add_le_add_iff_left, Nat.add_lt_add_iff_left,
      Nat.add_sub_add_left]
    rfl
  · rw [step_write32_ready hs hh ha hw]
    exact ⟨_, rfl, rfl, readBuffer_memWrite_word { s with host := rest } .ibuf off v⟩
  · rw [step_write32_ready hs hh ha hw]
    exact ⟨_, rfl, rfl, readBuffer_memWrite_word { s with host := rest } .obuf off v⟩
end

section
/-! PROOFS. The decoder against the encoder (R61 to R67): the fields of a format C word, the words of the commands, the
illegal words; and the statements O1, O2, O3, O4. -/

namespace Sys2Proof.Machine

/-! ## Format C (R61) -/

section FormatC

variable (op : BitVec 4) (d : BitVec 1) (r : BitVec 4)

/-- A format C word written to CMD is its fields, one after another. -/
theorem cmdValue_formatC : cmdValue (formatC op d r) = 0#16 ++ (op ++ d ++ 0#7 ++ r) :=
  BitVec.setWidth_eq_append (by decide)

theorem highBits_formatC : (cmdValue (formatC op d r)).extractLsb' 16 16 = 0#16 := by
  rw [cmdValue_formatC, BitVec.extractLsb'_append_eq_left]

theorem fieldR_formatC : fieldR (cmdValue (formatC op d r)) = r.toNat := by
  rw [fieldR, cmdValue_formatC, BitVec.extractLsb'_append_eq_of_add_le (by decide), BitVec.extractLsb'_append_eq_right]

theorem fieldZ_formatC : fieldZ (cmdValue (formatC op d r)) = 0 := by
  rw [fieldZ, cmdValue_formatC, BitVec.extractLsb'_append_eq_of_add_le (by decide),
    BitVec.extractLsb'_append_eq_of_le (by decide), BitVec.extractLsb'_append_eq_right]
  rfl

theorem fieldD_formatC : fieldD (cmdValue (formatC op d r)) = d.getLsbD 0 := by
  rw [fieldD, cmdValue_formatC, BitVec.getLsbD_append, BitVec.getLsbD_append, BitVec.getLsbD_append,
    BitVec.getLsbD_append]
  rfl

theorem fieldOp_formatC : fieldOp (cmdValue (formatC op d r)) = op.toNat := by
  rw [fieldOp, cmdValue_formatC, BitVec.extractLsb'_append_eq_of_add_le (by decide),
    BitVec.extractLsb'_append_eq_of_le (by decide), BitVec.extractLsb'_append_eq_of_le (by decide),
    BitVec.extractLsb'_append_eq_left]

/-- What a format C word decodes to: ARK for operation 7, else the row of the last table of R67, unless R is set. -/
theorem decode_formatC : decode (cmdValue (formatC op d r)) =
    if op.toNat = 0x7 then .legal (.ark r.toNat)
    else if r.toNat ≠ 0 then .illegal .roundFieldNonzero
    else decodeOp op.toNat (d.getLsbD 0) := by
  rw [decode, highBits_formatC, fieldZ_formatC, fieldOp_formatC, fieldR_formatC, fieldD_formatC, if_neg (by decide),
    if_neg (by decide)]

end FormatC

/-- A value with zero in bits 31:16 and in Z is the format C word of its fields. -/
theorem eq_formatC_of_fields {v : BitVec 32} (hhigh : v.extractLsb' 16 16 = 0#16) (hz : fieldZ v = 0) :
    v = cmdValue (formatC (BitVec.ofNat 4 (fieldOp v)) (BitVec.ofBool (fieldD v)) (BitVec.ofNat 4 (fieldR v))) := by
  have hz' : v.extractLsb' 4 7 = 0#7 := BitVec.eq_of_toNat_eq hz
  have hd : BitVec.ofBool (fieldD v) = v.extractLsb' 11 1 := by
    rw [fieldD, BitVec.getLsbD_eq_extractLsb']
    generalize v.extractLsb' 11 1 = d
    revert d
    decide
  have hall : v.extractLsb' 16 16 ++ (v.extractLsb' 12 4 ++ v.extractLsb' 11 1 ++ v.extractLsb' 4 7 ++
      v.extractLsb' 0 4) = v := by
    simp only [BitVec.extractLsb'_append_extractLsb'_eq_extractLsb' (x := v), Nat.reduceAdd]
    exact BitVec.extractLsb'_eq_self
  rw [cmdValue_formatC, hd, fieldOp, fieldR, BitVec.ofNat_toNat, BitVec.ofNat_toNat, BitVec.setWidth_eq,
    BitVec.setWidth_eq, ← hz', ← hhigh, hall]

/-- The R field has four bits (R62). -/
theorem fieldR_lt (v : BitVec 32) : fieldR v < 16 := BitVec.isLt _

/-! ## The legal words (R63, R67) -/

/-- A row of the last table of R67 is the row the encoder writes. -/
theorem encode_of_decodeOp {op : Nat} {d : Bool} {i : Instr} (h : decodeOp op d = .legal i) :
    i.wellFormed = true ∧ encode i = formatC (BitVec.ofNat 4 op) (BitVec.ofBool d) 0 := by
  unfold decodeOp at h
  split at h <;> cases h <;> exact ⟨rfl, rfl⟩

/-- Decoding undoes encoding, for every well-formed command (R67). -/
theorem decode_encode {i : Instr} (h : i.wellFormed = true) : decode (cmdValue (encode i)) = .legal i := by
  cases i
  case ark r =>
    have hr : r < 16 := of_decide_eq_true h
    rw [encode, decode_formatC, if_pos (by decide), BitVec.toNat_ofNat, Nat.mod_eq_of_lt hr]
  all_goals
    rw [encode, decode_formatC]
    rfl

/-- What a value that decodes to a command looks like, by the branches of the decoder (R67). -/
theorem decode_legal_cases {v : BitVec 32} {i : Instr} (h : decode v = .legal i) :
    v.extractLsb' 16 16 = 0#16 ∧ fieldZ v = 0 ∧
      ((fieldOp v = 0x7 ∧ i = .ark (fieldR v)) ∨ (fieldR v = 0 ∧ decodeOp (fieldOp v) (fieldD v) = .legal i)) := by
  unfold decode at h
  split at h
  · exact nomatch h
  rename_i hhigh
  split at h
  · exact nomatch h
  rename_i hz
  refine ⟨Decidable.not_not.1 hhigh, Decidable.not_not.1 hz, ?_⟩
  split at h
  · next hop => exact .inl ⟨hop, (Decoded.legal.inj h).symm⟩
  split at h
  · exact nomatch h
  · next hr => exact .inr ⟨Decidable.not_not.1 hr, h⟩

/-- The words of a command: the one the encoder gives, and for ARK also the one with D = 1 (R63, R64). -/
theorem decode_legal_iff {v : BitVec 32} {i : Instr} : decode v = .legal i ↔
    (i.wellFormed = true ∧ v = cmdValue (encode i)) ∨
      ∃ r : BitVec 4, v = cmdValue (formatC 0x7#4 1 r) ∧ i = .ark r.toNat := by
  constructor
  · intro h
    obtain ⟨hhigh, hz, ⟨hop, rfl⟩ | ⟨hr, hrow⟩⟩ := decode_legal_cases h
    · have hv := eq_formatC_of_fields hhigh hz
      rw [hop] at hv
      cases hd : fieldD v <;> rw [hd] at hv
      · exact .inl ⟨decide_eq_true (fieldR_lt v), hv⟩
      · refine .inr ⟨BitVec.ofNat 4 (fieldR v), hv, ?_⟩
        rw [BitVec.toNat_ofNat, Nat.mod_eq_of_lt (fieldR_lt v)]
    · obtain ⟨hwf, henc⟩ := encode_of_decodeOp hrow
      have hv := eq_formatC_of_fields hhigh hz
      rw [hr] at hv
      exact .inl ⟨hwf, henc ▸ hv⟩
  · rintro (⟨hwf, rfl⟩ | ⟨r, rfl, rfl⟩)
    · exact decode_encode hwf
    · rw [decode_formatC, if_pos (by decide)]

/-- The first word of ARK, as the opcode map writes it (R63). -/
theorem cmdValue_ark_encrypt : ∀ r : BitVec 4, cmdValue (formatC 0x7#4 0 r) = 0x7000 + r.setWidth 32 := by decide

/-- The second word of ARK, with the ignored bit D set (R63, R64). -/
theorem cmdValue_ark_decrypt : ∀ r : BitVec 4, cmdValue (formatC 0x7#4 1 r) = 0x7800 + r.setWidth 32 := by decide

/-- ARK has the two words of each round index (R63). -/
theorem decode_ark_iff {v : BitVec 32} {n : Nat} : decode v = .legal (.ark n) ↔
    ∃ r : BitVec 4, (v = 0x7000 + r.setWidth 32 ∨ v = 0x7800 + r.setWidth 32) ∧ n = r.toNat := by
  simp only [← cmdValue_ark_encrypt, ← cmdValue_ark_decrypt]
  constructor
  · intro h
    obtain ⟨hwf, rfl⟩ | ⟨r, rfl, hn⟩ := decode_legal_iff.1 h
    · have hn : n < 16 := of_decide_eq_true hwf
      exact ⟨BitVec.ofNat 4 n, .inl rfl, (Nat.mod_eq_of_lt hn).symm⟩
    · exact ⟨r, .inr rfl, Instr.ark.inj hn⟩
  · rintro ⟨r, rfl | rfl, rfl⟩ <;> rw [decode_formatC, if_pos (by decide)]

/-! ## The illegal words (R66) -/

/-- Conditions (b) and (d): an operation code that is not ARK's has no row of R67. -/
theorem decodeOp_illegal_iff {op : Nat} (h7 : op ≠ 0x7) (d : Bool) : (∃ why, decodeOp op d = .illegal why) ↔
    (op = 0x0 ∨ 0xB ≤ op) ∨ ((op = 0x1 ∨ op = 0x2 ∨ op = 0x3) ∧ d = true) := by
  unfold decodeOp
  split
  case h_19 =>
    simp only [Decoded.illegal.injEq, exists_eq', true_iff]
    grind
  all_goals simp

/-- The conditions (a) to (e) of R66. -/
theorem decode_illegal_iff (v : BitVec 32) : (∃ why, decode v = .illegal why) ↔
    v.extractLsb' 16 16 ≠ 0#16 ∨ (fieldOp v = 0x0 ∨ 0xB ≤ fieldOp v) ∨ fieldZ v ≠ 0 ∨
      ((fieldOp v = 0x1 ∨ fieldOp v = 0x2 ∨ fieldOp v = 0x3) ∧ fieldD v = true) ∨
        (fieldOp v ≠ 0x7 ∧ fieldR v ≠ 0) := by
  unfold decode
  split
  · next hhigh => exact iff_of_true ⟨_, rfl⟩ (.inl hhigh)
  rename_i hhigh
  split
  · next hz => exact iff_of_true ⟨_, rfl⟩ (.inr (.inr (.inl hz)))
  rename_i hz
  split
  · next hop =>
    exact iff_of_false (fun ⟨_, h⟩ => nomatch h) (by simp [hhigh, hz, hop])
  rename_i hop
  split
  · next hr => exact iff_of_true ⟨_, rfl⟩ (.inr (.inr (.inr (.inr ⟨hop, hr⟩))))
  · next hr =>
    rw [decodeOp_illegal_iff hop]
    simp only [hhigh, hz, hr, false_or, and_false, or_false]

/-- A command line of an illegal word on a ready engine is FC_ILLCMD (R66). -/
theorem command_of_illegal {s : State} {v : BitVec 32} {why : Illegal} (h : s.ready = true)
    (hd : decode v = .illegal why) : s.command v = .next (s.enterFatal .illegalCommand) := by
  obtain ⟨hb, hf⟩ := ready_iff.1 h
  simp [State.command, hb, hf, hd]

/-- A bare write of an illegal word to CMD is FC_ILLCMD (R66). -/
theorem issue_of_illegal {s : State} {v : BitVec 32} {why : Illegal} (hd : decode v = .illegal why) :
    s.issue v = s.enterFatal .illegalCommand := by rw [State.issue, hd]

end Sys2Proof.Machine

open Sys2Proof Sys2Proof.Machine

/-- Settles O1. -/
theorem decodeOfEncodeIsTheCommand : Obligations.DecodeOfEncodeIsTheCommand :=
  fun _ h => decode_encode h

/-- Settles O2: the words of `decode_legal_iff`, command by command. -/
theorem decodeAcceptsExactlyTheWords : Obligations.DecodeAcceptsExactlyTheWords := by
  intro v i
  cases i
  case ark n => simp [decode_ark_iff]
  all_goals
    rw [decode_legal_iff]
    simp [Instr.wellFormed, encode, cmdValue, formatC]

/-- Settles O3: an illegal word is FC_ILLCMD on a command line and in a bare write. -/
theorem illegalWordsAreFatal : Obligations.IllegalWordsAreFatal := by
  refine ⟨decode_illegal_iff, fun s v why rest hr hd hh => ?_⟩
  obtain hh | hh := hh
  · rw [step_cons hh, hostAct, command_of_illegal (by exact hr) hd]
    rfl
  · rw [step_write32_ready hr hh rfl (by simp [State.windowSize])]
    exact congrArg _ (issue_of_illegal hd)

/-- Settles O4. -/
theorem sampleWordsDecode : Obligations.SampleWordsDecode := by
  unfold Obligations.SampleWordsDecode
  decide
end

section
/-! PROOFS. Programs of the host (R69, R70): runs of several acts, and a WRB line into KEY; and the statement O23. -/

namespace Sys2Proof.Machine

/-! ## Runs -/

/-- A run ends at a step that faults. -/
theorem run_succ_of_fault {s : State} {f : Fault} (h : step s = .fault f) (k : Nat) :
    Host.Core.run Sys2Proof.core (k + 1) s = .fault f := by
  have hc : Sys2Proof.core.step s = .fault f := h
  simp [Host.Core.run, hc]

/-- A run ends at a step that is refused. -/
theorem run_succ_of_refused {s : State} {r : Refusal} (h : step s = .refused r) (k : Nat) :
    Host.Core.run Sys2Proof.core (k + 1) s = .refused r := by
  have hc : Sys2Proof.core.step s = .refused r := h
  simp [Host.Core.run, hc]

/-- A run that answers a next state is the first part of a longer run. -/
theorem run_add_of_run {m : Nat} {s t : State} (h : Host.Core.run Sys2Proof.core m s = .next t) (k : Nat) :
    Host.Core.run Sys2Proof.core (m + k) s = Host.Core.run Sys2Proof.core k t := by
  induction m generalizing s with
  | zero =>
    cases h
    rw [Nat.zero_add]
  | succ m ih =>
    rw [Nat.add_right_comm]
    cases hs : step s with
    | next u =>
      rw [run_succ_of_step hs] at h ⊢
      exact ih h
    | fault f => exact absurd h (by simp [run_succ_of_fault hs])
    | refused r => exact absurd h (by simp [run_succ_of_refused hs])

theorem length_writeBytes (win : Window) (off : Nat) (vs : List Byte) : (writeBytes win off vs).length = vs.length := by
  induction vs generalizing off with
  | nil => rfl
  | cons v vs ih => rw [writeBytes, List.length_cons, List.length_cons, ih]

/-! ## Consecutive writes to KEY (R13, R69) -/

/-- Writes consecutive bytes of KEY, the first at `KEY[j]`. -/
def State.setKeyBytes (s : State) (j : Nat) : List Byte → State
  | [] => s
  | v :: vs => (s.setKeyByte j v).setKeyBytes (j + 1) vs

/-- Consecutive writes to KEY change KEY only. -/
theorem setKeyBytes_eq (s : State) (j : Nat) (vs : List Byte) :
    s.setKeyBytes j vs = { s with key := (s.setKeyBytes j vs).key } := by
  induction vs generalizing s j with
  | nil => rfl
  | cons v vs ih =>
    rw [State.setKeyBytes, ih]
    rfl

/-- A read of KEY after consecutive writes (R13): inside the range the byte written, outside it what was there. -/
theorem keyByte_setKeyBytes (s : State) (j : Nat) (vs : List Byte) (h : j + vs.length ≤ 32) (x : Nat) :
    (s.setKeyBytes j vs).keyByte x = if j ≤ x ∧ x < j + vs.length then vs.getD (x - j) 0 else s.keyByte x := by
  induction vs generalizing s j with
  | nil => rw [State.setKeyBytes, List.length_nil, if_neg (by omega)]
  | cons v vs ih =>
    rw [List.length_cons] at h ⊢
    rw [State.setKeyBytes, ih _ _ (by omega), keyByte_setKeyByte _ (by omega)]
    obtain hlt | rfl | hgt := Nat.lt_trichotomy x j
    · rw [if_neg (by omega), if_neg (by omega), if_neg (by omega)]
    · rw [if_neg (by omega), if_pos rfl, if_pos (by omega), Nat.sub_self, List.getD_cons_zero]
    · have hpred : x - j = x - (j + 1) + 1 := by omega
      rw [hpred, List.getD_cons_succ, if_neg (Nat.ne_of_gt hgt)]
      by_cases hin : x < j + 1 + vs.length
      · rw [if_pos (by omega), if_pos (by omega)]
      · rw [if_neg (by omega), if_neg (by omega)]

/-- A WRB line into KEY of a ready engine stores its bytes (R69). -/
theorem run_writeBytes_key {s : State} {j : Nat} {vs : List Byte} {rest : List HostOp} (hr : s.ready = true)
    (hj : j + vs.length ≤ 32) (hh : s.host = writeBytes .regs (0x040 + j) vs ++ rest) :
    Host.Core.run Sys2Proof.core vs.length s = .next (State.setKeyBytes { s with host := rest } j vs) := by
  induction vs generalizing s j with
  | nil =>
    have hrest : s.host = rest := hh
    rw [State.setKeyBytes, ← hrest]
    rfl
  | cons v vs ih =>
    rw [List.length_cons] at hj ⊢
    have hstep : step s = .next (State.writeRegByte { s with host := writeBytes .regs (0x040 + (j + 1)) vs ++ rest }
        (0x040 + j) v) :=
      step_write8_ready hr hh (by simp only [State.windowSize]; omega) fun _ => by omega
    rw [writeRegByte_key _ (by omega)] at hstep
    rw [run_succ_of_step hstep]
    exact ih (by exact hr) (by omega) rfl

/-! ## The pseudo-instructions SETKEY128 and SETKEY256 (R70) -/

/-- A write of CFG declares the key size (R15). -/
theorem step_write_cfg {s : State} {v : BitVec 32} {rest : List HostOp} (hr : s.ready = true)
    (hh : s.host = .write32 .regs 0x010 v :: rest) : step s = .next { s with host := rest, ks := cfgKeySize v } :=
  step_write32_ready hr hh (by decide) (by simp [State.windowSize])

/-- A write of KLEN declares the length of the key (R14). -/
theorem step_write_klen {s : State} {v : BitVec 32} {rest : List HostOp} (hr : s.ready = true)
    (hh : s.host = .write32 .regs 0x014 v :: rest) : step s = .next { s with host := rest, klen := klenOf v } :=
  step_write32_ready hr hh (by decide) (by simp [State.windowSize])

/-- The three lines of SETKEY on a ready engine store the key size, the key bytes and the length, and nothing else. -/
theorem run_setkey {s : State} {size len : BitVec 32} {bytes : List Byte} (hr : s.ready = true)
    (hlen : bytes.length ≤ 32) (hh : s.host = programOps [.wr .cfg size, .wrb .key 0 bytes, .wr .klen len]) :
    ∃ t, Host.Core.run Sys2Proof.core s.host.length s = .next t ∧
      t = { s with host := [], key := t.key, ks := cfgKeySize size, klen := klenOf len } ∧
        ∀ x, t.keyByte x = if x < bytes.length then bytes.getD x 0 else s.keyByte x := by
  have hops : s.host = .write32 .regs 0x010 size :: (writeBytes .regs 0x040 bytes ++ [.write32 .regs 0x014 len]) := hh
  have hcount : s.host.length = bytes.length + 1 + 1 := by
    rw [hops, List.length_cons, List.length_append, length_writeBytes, List.length_singleton]
  have hkey := run_writeBytes_key (j := 0) (rest := [.write32 .regs 0x014 len])
    (s := { s with host := writeBytes .regs 0x040 bytes ++ [.write32 .regs 0x014 len], ks := cfgKeySize size })
    (by exact hr) (by omega) rfl
  have hframe := setKeyBytes_eq { s with host := [.write32 .regs 0x014 len], ks := cfgKeySize size } 0 bytes
  have hread := keyByte_setKeyBytes { s with host := [.write32 .regs 0x014 len], ks := cfgKeySize size } 0 bytes
    (by omega)
  generalize State.setKeyBytes _ 0 bytes = u at hkey hframe hread
  have hklen : step u = .next { u with host := [], klen := klenOf len } :=
    step_write_klen ((congrArg State.ready hframe).trans hr) (congrArg State.host hframe)
  refine ⟨{ u with host := [], klen := klenOf len }, ?_, ?_, fun x => ?_⟩
  · rw [hcount, run_succ_of_step (step_write_cfg hr hops), run_add_of_run hkey, run_succ_of_step hklen]
    rfl
  · rw [hframe]
  · exact (hread x).trans (ite_congr (propext (by omega)) (fun _ => rfl) fun _ => rfl)

end Sys2Proof.Machine

open Sys2Proof Sys2Proof.Machine

/-- Settles O23: both pseudo-instructions are the three lines of `run_setkey`. -/
theorem setkeyLoadsTheKey : Obligations.SetkeyLoadsTheKey := by
  refine fun s bytes hr => ⟨fun hlen hh => ?_, fun hlen hh => ?_⟩ <;>
    obtain ⟨t, hrun, hframe, hkey⟩ := run_setkey hr (by omega) hh
  · exact ⟨t, hrun, hframe, fun j hj => (hkey j).trans (if_pos (by omega)),
      fun j hj => (hkey j).trans (if_neg (by omega))⟩
  · exact ⟨t, hrun, hframe, fun j hj => (hkey j).trans (if_pos (by omega))⟩
end

section
/-! PROOFS. Key expansion (R83 to R89) and the lengths of the lists of micro-operations (R87, R123, R167, R221); the statements
O30, O31, O32 and O57. -/

namespace Sys2Proof.Machine

/-! ## The sizes of R6, in numbers -/

theorem keyWords_eq (ks : KeySize) : keyWords ks = if ks = .k128 then 4 else 8 := by cases ks <;> rfl

theorem keyBytes_eq (ks : KeySize) : keyBytes ks = if ks = .k128 then 16 else 32 := by cases ks <;> rfl

theorem roundsOf_eq (ks : KeySize) : roundsOf ks = if ks = .k128 then 10 else 14 := by cases ks <;> rfl

theorem roundsOf_toNat (ks : KeySize) : (roundsOf ks).toNat = if ks = .k128 then 10 else 14 := by cases ks <;> rfl

theorem roundsOf_pos (ks : KeySize) : 0 < (roundsOf ks).toNat := by cases ks <;> decide

theorem scheduleWords_eq (ks : KeySize) : scheduleWords ks = if ks = .k128 then 44 else 60 := by cases ks <;> rfl

/-! ## KEXP by its key checks (R84, R86) -/

/-- The key checks report nothing for the required length, IKS and IKB below it, and IKS above it (R84). -/
theorem keyCheck_eq (s : State) : s.keyCheck =
    if s.klen.toNat = keyBytes s.ks then 0 else if s.klen.toNat < keyBytes s.ks then 3 else 1 := by
  unfold State.keyCheck errWhen
  obtain hlt | heq | hgt := Nat.lt_trichotomy s.klen.toNat (keyBytes s.ks)
  · simp [Nat.ne_of_lt hlt, hlt, errIKS, errIKB]
  · simp [heq]
  · simp [Nat.ne_of_gt hgt, Nat.lt_asymm hgt, errIKS]

/-- A key of the required length passes the key checks. -/
theorem keyCheckEffect_of_key {s : State} (h : s.klen.toNat = keyBytes s.ks) : keyCheckEffect s = .ok s := by
  rw [keyCheckEffect, keyCheck_eq, if_pos h, if_pos rfl]

/-- A key of another length clears KVALID and aborts. -/
theorem keyCheckEffect_of_badKey {s : State} (h : s.klen.toNat ≠ keyBytes s.ks) :
    keyCheckEffect s = .error { s with kvalid := false } (if s.klen.toNat < keyBytes s.ks then 3 else 1) := by
  rw [keyCheckEffect, keyCheck_eq, if_neg h]
  exact if_neg (by split <;> decide)

theorem exec_kexp_of_key {s : State} (h : s.klen.toNat = keyBytes s.ks) :
    exec .kexp s = .next (s.expandKey.finish 0) := by
  rw [exec_eq, commandEffect, kexpEffect, keyCheckEffect_of_key h]
  rfl

theorem exec_kexp_of_badKey {s : State} (h : s.klen.toNat ≠ keyBytes s.ks) :
    exec .kexp s =
      .next (State.abort { s with kvalid := false } (if s.klen.toNat < keyBytes s.ks then 3 else 1)) := by
  rw [exec_eq, commandEffect, kexpEffect, keyCheckEffect_of_badKey h]
  rfl

/-! ## The schedule is determined by its first words (R85, R89) -/

/-- Two files that start with the same `nk` words and both satisfy the recurrence up to word `nw` agree up to word `nw`. -/
theorem scheduleWord_unique {nk nw : Nat} (hk : 0 < nk) {w w' : Vector Word 60}
    (hkey : ∀ i, i < nk → scheduleWord w i = scheduleWord w' i)
    (hw : ∀ i, nk ≤ i → i < nw → scheduleWord w i = scheduleNext nk i w)
    (hw' : ∀ i, nk ≤ i → i < nw → scheduleWord w' i = scheduleNext nk i w') (i : Nat) (hi : i < nw) :
    scheduleWord w i = scheduleWord w' i := by
  induction i using Nat.strongRecOn with
  | ind i ih =>
    by_cases hlt : i < nk
    · exact hkey i hlt
    · have hge : nk ≤ i := Nat.not_lt.1 hlt
      rw [hw i hge hi, hw' i hge hi, scheduleNext, scheduleNext, ih (i - nk) (by omega) (by omega),
        ih (i - 1) (by omega) (by omega)]

/-- Key expansion of the same key bytes under the same key size gives the same schedule (R89). -/
theorem expandKey_w_congr {s s' : State} (hks : s.ks = s'.ks)
    (hkey : ∀ j, j < keyBytes s.ks → s.keyByte j = s'.keyByte j) (i : Nat) (hi : i < scheduleWords s.ks) :
    scheduleWord s.expandKey.w i = scheduleWord s'.expandKey.w i := by
  obtain ⟨hload, hrec, _⟩ := expandKey_w s
  obtain ⟨hload', hrec', _⟩ := expandKey_w s'
  rw [← hks] at hload' hrec'
  have hword : ∀ i, i < keyWords s.ks → s.keyWord i = s'.keyWord i := fun i hi =>
    congrArg wordOf (funext fun k => hkey _ (by unfold keyBytes; omega))
  exact scheduleWord_unique (keyWords_pos s.ks).1
    (fun i hi => by rw [hload i hi, hload' i hi, hword i hi]) hrec hrec' i hi

/-! ## The lengths of the lists -/

theorem length_keyPhase (ks : KeySize) : (keyPhase ks).length = if ks = .k128 then 42 else 54 := by cases ks <;> rfl

theorem length_encryptMiddle (n : Nat) : (encryptMiddle n).length = 4 * n := by
  induction n with
  | zero => rfl
  | succ n ih =>
    rw [encryptMiddle, List.length_append, ih]
    rfl

theorem length_decryptMiddle (n : Nat) : (decryptMiddle n).length = 4 * n := by
  induction n with
  | zero => rfl
  | succ n ih =>
    rw [decryptMiddle, List.length_append, ih]
    exact Nat.add_comm 4 (4 * n)

/-- Each of the `nr` rounds has four entries; the last one has the first ARK in the place of its MIX (R123). -/
theorem length_ciphEUops {nr : Nat} (h : 0 < nr) : (ciphEUops nr).length = 4 * nr := by
  simp only [ciphEUops, List.flatten_cons, List.flatten_nil, List.length_append, List.length_cons, List.length_nil,
    length_encryptMiddle]
  omega

theorem length_ciphDUops {nr : Nat} (h : 0 < nr) : (ciphDUops nr).length = 4 * nr := by
  simp only [ciphDUops, List.flatten_cons, List.flatten_nil, List.length_append, List.length_cons, List.length_nil,
    length_decryptMiddle]
  omega

/-- A block has SETB, LDS and STS besides the cipher (R167). -/
theorem length_blockUops (cipher : List MicroOp) (n b : Nat) :
    (blockUops cipher n b).length = n * (3 + cipher.length) := by
  induction n generalizing b with
  | zero => exact (Nat.zero_mul _).symm
  | succ n ih =>
    simp only [blockUops, List.flatten_cons, List.flatten_nil, List.length_append, List.length_cons, List.length_nil, ih,
      Nat.succ_mul]
    omega

theorem length_runEUops (ks : KeySize) (n : Nat) : (runEUops ks n).length =
    1 + (if ks = .k128 then 42 else 54) + 1 + n * (3 + 4 * (if ks = .k128 then 10 else 14)) + 1 := by
  rw [← roundsOf_toNat]
  simp only [runEUops, List.flatten_cons, List.flatten_nil, List.length_append, List.length_cons, List.length_nil,
    length_keyPhase, length_blockUops, length_ciphEUops (roundsOf_pos ks)]
  omega

theorem length_runDUops (ks : KeySize) (n : Nat) : (runDUops ks n).length =
    1 + (if ks = .k128 then 42 else 54) + n * (3 + 4 * (if ks = .k128 then 10 else 14)) + 1 + 1 := by
  rw [← roundsOf_toNat]
  simp only [runDUops, List.flatten_cons, List.flatten_nil, List.length_append, List.length_cons, List.length_nil,
    length_keyPhase, length_blockUops, length_ciphDUops (roundsOf_pos ks)]
  omega

/-- The pad count of R141 by the remainder of the length. -/
theorem padCount_eq_padOf (p : PadAligned) (len : Nat) : padCount p len = padOf p len := by
  have hceil : 16 * ceilBlocks len - len = if len % 16 ≠ 0 then 16 - len % 16 else 0 := by
    unfold ceilBlocks
    split <;> omega
  unfold padCount padOf
  rw [hceil]
  by_cases h : len % 16 ≠ 0
  · have hne : 16 - len % 16 ≠ 0 := by omega
    cases p <;> simp only [if_pos h, if_neg hne]
  · cases p <;> simp only [if_neg h, if_true]

theorem uops_runE {s : State} {n : Nat} (h : n = (s.ilen + padOf s.params.padAligned s.ilen) / 16) :
    uops .runE s = runEUops s.ks n := by
  rw [h, ← padCount_eq_padOf]
  rfl

end Sys2Proof.Machine

open Sys2Proof Sys2Proof.Machine

/-- Settles O30: a key of the required length is expanded, and `expandKey_w` says what that leaves in W. -/
theorem kexpExpandsTheKey : Obligations.KexpExpandsTheKey := by
  refine ⟨by decide, fun s nk nw hnk hnw hlen => ?_⟩
  rw [← keyWords_eq] at hnk
  rw [← scheduleWords_eq] at hnw
  subst hnk hnw
  obtain ⟨hload, hrec, hother⟩ := expandKey_w s
  refine ⟨_, exec_kexp_of_key hlen, ?_, fun i hi k => ?_, hrec, fun i hi _ => hother i hi⟩
  · rw [← roundsOf_eq]
    rfl
  · rw [finish_w, hload i hi, State.keyWord, wordByte_wordOf]

/-- Settles O31: a key of another length aborts, one of the required length completes. -/
theorem kexpChecksTheKeyLength : Obligations.KexpChecksTheKeyLength := by
  intro s req hreq
  rw [← keyBytes_eq] at hreq
  subst hreq
  exact ⟨exec_kexp_of_badKey, fun h => ⟨_, exec_kexp_of_key h, rfl, rfl⟩⟩

/-- Settles O32: both commands complete, with the schedules of `expandKey_w_congr`. -/
theorem kexpDependsOnTheKeyOnly : Obligations.KexpDependsOnTheKeyOnly := by
  intro s s' t t' hks hkey hlen hlen' ht ht'
  rw [exec_kexp_of_key hlen] at ht
  rw [exec_kexp_of_key (hks ▸ hlen')] at ht'
  cases ht
  cases ht'
  exact ⟨congrArg roundsOf hks, rfl, expandKey_w_congr hks hkey⟩

/-- Settles O57, list by list. -/
theorem microOperationCounts : Obligations.MicroOperationCounts := by
  refine fun s => ⟨?_, fun h => ⟨length_ciphEUops h, length_ciphDUops h⟩, length_runEUops, length_runDUops,
    fun n hn => ?_, fun n hn => ?_, fun i h1 h2 h3 h4 h5 => ?_⟩
  · rw [uops, List.length_cons, length_keyPhase]
    split <;> rfl
  · rw [uops_runE hn]
    exact ⟨rfl, length_runEUops _ _⟩
  · subst hn
    exact ⟨rfl, length_runDUops _ _⟩
  · cases i
    case kexp => exact absurd rfl h1
    case ciphE => exact absurd rfl h2
    case ciphD => exact absurd rfl h3
    case runE => exact absurd rfl h4
    case runD => exact absurd rfl h5
    all_goals rfl
end

section
/-! PROOFS. The round transforms as commands (R101 to R111), and the statements O33 to O39 and O41. -/

namespace Sys2Proof.Machine

/-! ## The transforms on a block -/

/-- The S-box has no fixed point (R103). -/
theorem sbox_ne_self : ∀ b, sbox b ≠ b := by decide +kernel

/-- MixColumns on a column is cyclic: row `i` combines its own byte and the three below it, mod 4 (R107). -/
theorem wordByte_mixColumn (c : Word) (i : Fin 4) : wordByte (mixColumn c) i =
    mul2 (wordByte c i) ^^^ mul3 (wordByte c (i + 1)) ^^^ wordByte c (i + 2) ^^^ wordByte c (i + 3) := by
  match i with
  | 0 => rfl
  | 1 | 2 | 3 =>
    simp only [mixColumn, wordByte, Fin.reduceAdd]
    ac_rfl

/-- InvMixColumns on a column is cyclic in the same way (R108). -/
theorem wordByte_invMixColumn (c : Word) (i : Fin 4) : wordByte (invMixColumn c) i =
    mul14 (wordByte c i) ^^^ mul11 (wordByte c (i + 1)) ^^^ mul13 (wordByte c (i + 2)) ^^^
      mul9 (wordByte c (i + 3)) := by
  match i with
  | 0 => rfl
  | 1 | 2 | 3 =>
    simp only [invMixColumn, wordByte, Fin.reduceAdd]
    ac_rfl

/-! ## Each transform and its inverse (R111)

The product of the two circulant matrices is, in this order too, fixed by its first row, which is 1, 0, 0, 0. -/

theorem mix_invMix_own : ∀ b : Byte, mul2 (mul14 b) ^^^ mul3 (mul9 b) ^^^ mul13 b ^^^ mul11 b = b := by decide +kernel

theorem mix_invMix_next : ∀ b : Byte, mul2 (mul11 b) ^^^ mul3 (mul14 b) ^^^ mul9 b ^^^ mul13 b = 0 := by decide +kernel

theorem mix_invMix_second : ∀ b : Byte, mul2 (mul13 b) ^^^ mul3 (mul11 b) ^^^ mul14 b ^^^ mul9 b = 0 := by
  decide +kernel

theorem mix_invMix_third : ∀ b : Byte, mul2 (mul9 b) ^^^ mul3 (mul13 b) ^^^ mul11 b ^^^ mul14 b = 0 := by
  decide +kernel

/-- A row of that product applied to a column, its own entry first. -/
theorem mix_invMix_row (a b c d : Byte) :
    mul2 (mul14 a ^^^ mul11 b ^^^ mul13 c ^^^ mul9 d) ^^^ mul3 (mul9 a ^^^ mul14 b ^^^ mul11 c ^^^ mul13 d) ^^^
      (mul13 a ^^^ mul9 b ^^^ mul14 c ^^^ mul11 d) ^^^ (mul11 a ^^^ mul13 b ^^^ mul9 c ^^^ mul14 d) = a := by
  calc _ = (mul2 (mul14 a) ^^^ mul3 (mul9 a) ^^^ mul13 a ^^^ mul11 a) ^^^
          (mul2 (mul11 b) ^^^ mul3 (mul14 b) ^^^ mul9 b ^^^ mul13 b) ^^^
          (mul2 (mul13 c) ^^^ mul3 (mul11 c) ^^^ mul14 c ^^^ mul9 c) ^^^
          (mul2 (mul9 d) ^^^ mul3 (mul13 d) ^^^ mul11 d ^^^ mul14 d) := by
        simp only [mul2_xor, mul3_xor]
        ac_rfl
    _ = a := by
      simp only [mix_invMix_own, mix_invMix_next, mix_invMix_second, mix_invMix_third,
        BitVec.ofNat_eq_ofNat, BitVec.xor_zero]

/-- MixColumns undoes InvMixColumns on a column: row `i` of the product gives byte `i`, by the cyclic form of both. -/
theorem mixColumn_invMixColumn (c : Word) : mixColumn (invMixColumn c) = c :=
  word_ext fun i => by
    have hassoc : ∀ j k : Fin 4, i + j + k = i + (j + k) := fun j k => by omega
    refine Eq.trans ?_ (mix_invMix_row (wordByte c i) (wordByte c (i + 1)) (wordByte c (i + 2)) (wordByte c (i + 3)))
    simp only [wordByte_mixColumn, wordByte_invMixColumn, hassoc, Fin.reduceAdd, Fin.isValue, Fin.add_zero]
    ac_rfl

theorem invSubBytes_subBytes (T : Block) : invSubBytes (subBytes T) = T :=
  block_ext fun r c => by rw [blockByte_invSubBytes, blockByte_subBytes, sboxInv_sbox]

theorem subBytes_invSubBytes (T : Block) : subBytes (invSubBytes T) = T :=
  block_ext fun r c => by rw [blockByte_subBytes, blockByte_invSubBytes, sbox_sboxInv]

theorem invShiftRows_shiftRows (T : Block) : invShiftRows (shiftRows T) = T :=
  block_ext fun r c => by
    have hcol : c - r + r = c := by omega
    rw [blockByte_invShiftRows, blockByte_shiftRows, hcol]

theorem shiftRows_invShiftRows (T : Block) : shiftRows (invShiftRows T) = T :=
  block_ext fun r c => by
    have hcol : c + r - r = c := by omega
    rw [blockByte_shiftRows, blockByte_invShiftRows, hcol]

theorem invMixColumns_mixColumns (T : Block) : invMixColumns (mixColumns T) = T := by
  simp only [invMixColumns, mixColumns, mapColumns, invMixColumn_mixColumn]

theorem mixColumns_invMixColumns (T : Block) : mixColumns (invMixColumns T) = T := by
  simp only [invMixColumns, mixColumns, mapColumns, mixColumn_invMixColumn]

theorem addRoundKey_addRoundKey (w : Vector Word 60) (n : Nat) (T : Block) :
    addRoundKey w n (addRoundKey w n T) = T :=
  block_ext fun r c => by
    rw [blockByte_addRoundKey, blockByte_addRoundKey, BitVec.xor_assoc, BitVec.xor_self, BitVec.xor_zero]

/-- AddRoundKey reads the four words of its round key only (R109). -/
theorem addRoundKey_congr {w w' : Vector Word 60} {n : Nat}
    (h : ∀ c : Fin 4, scheduleWord w' (4 * n + c.val) = scheduleWord w (4 * n + c.val)) (T : Block) :
    addRoundKey w' n T = addRoundKey w n T :=
  block_ext fun r c => by simp only [blockByte_addRoundKey, blockByte_roundKey, h]

/-! ## The commands -/

/-- A command whose work is a pure transform of S completes and gives S its value (R110). -/
theorem exec_of_transform {i : Instr} {f : Block → Block} (h : commandEffect i = transformEffect f) (s : State) :
    exec i s = .next (s.doneWith (f s.S)) := by
  rw [exec_eq, h]
  rfl

/-- The state such a command leaves is that value of S, and everything else is as `done()` leaves it. -/
theorem eq_doneWith_of_transform {i : Instr} {f : Block → Block} (h : commandEffect i = transformEffect f) {s t : State}
    (ht : exec i s = .next t) : t = s.doneWith (f s.S) := by
  cases (exec_of_transform h s).symm.trans ht
  rfl

/-- ARK with a valid schedule and a round index in range completes (R109). -/
theorem exec_ark_of_le {s : State} {r : Nat} (hk : s.kvalid = true) (hr : r ≤ s.nr.toNat) :
    exec (.ark r) s = .next (s.doneWith (addRoundKey s.w r s.S)) := by
  rw [exec_eq, commandEffect, arkEffect_of_le hk hr]
  rfl

/-- ARK without a valid schedule (R109). -/
theorem exec_ark_of_noKey {s : State} (r : Nat) (hk : s.kvalid = false) :
    exec (.ark r) s = .next (s.enterFatal .noKey) := by
  rw [exec_eq, commandEffect, arkEffect_of_noKey r hk]
  rfl

/-- ARK with a round index out of range (R109). -/
theorem exec_ark_of_lt {s : State} {r : Nat} (hk : s.kvalid = true) (hr : s.nr.toNat < r) :
    exec (.ark r) s = .next (s.enterFatal .round) := by
  simp only [exec_eq, commandEffect, arkEffect, hk, if_pos hr, Bool.true_eq_false, if_false, Effect.settle]

/-- ARK adds the round key when its checks pass, and is fatal when one fails (R109). -/
theorem exec_ark_cases (r : Nat) (s : State) :
    ((s.kvalid = true ∧ r ≤ s.nr.toNat) ∧ exec (.ark r) s = .next (s.doneWith (addRoundKey s.w r s.S))) ∨
      (¬ (s.kvalid = true ∧ r ≤ s.nr.toNat) ∧ ∃ c, exec (.ark r) s = .next (s.enterFatal c)) := by
  cases hk : s.kvalid with
  | false => exact .inr ⟨by simp, _, exec_ark_of_noKey r hk⟩
  | true =>
    obtain hr | hr := Nat.lt_or_ge s.nr.toNat r
    · exact .inr ⟨by simpa using hr, _, exec_ark_of_lt hk hr⟩
    · exact .inl ⟨⟨rfl, hr⟩, exec_ark_of_le hk hr⟩

/-- What ARK leaves in S (R109). -/
theorem exec_ark_S {r : Nat} {s t : State} (h : exec (.ark r) s = .next t) :
    t.S = if s.kvalid = true ∧ r ≤ s.nr.toNat then addRoundKey s.w r s.S else s.S := by
  obtain ⟨hok, he⟩ | ⟨hok, c, he⟩ := exec_ark_cases r s
  · rw [if_pos hok]
    cases he.symm.trans h
    rfl
  · rw [if_neg hok]
    cases he.symm.trans h
    rfl

/-- LDS with its block inside the valid input completes (R101). -/
theorem exec_lds_of_le {s : State} (h : 16 * s.bidx.toNat + 16 ≤ s.ilen) :
    exec .lds s = .next (s.doneWith (s.bufferBlock .ibuf s.bidx.toNat)) := by
  simp only [exec_eq, commandEffect, ldsEffect, if_neg (Nat.not_lt.2 h)]
  rfl

/-- LDS with its block not wholly inside the valid input (R101). -/
theorem exec_lds_of_lt {s : State} (h : s.ilen < 16 * s.bidx.toNat + 16) :
    exec .lds s = .next (s.enterFatal .range) := by
  simp only [exec_eq, commandEffect, ldsEffect, if_pos h, Effect.settle]

/-- STS with its block inside OBUF completes (R102). -/
theorem exec_sts_of_le {s : State} (h : 16 * s.bidx.toNat + 16 ≤ s.params.bufcap) :
    exec .sts s = .next ((s.memWrite .obuf (16 * s.bidx.toNat) (blockBytes s.S)).finish 0) := by
  simp only [exec_eq, commandEffect, stsEffect, if_neg (Nat.not_lt.2 h), Effect.settle]

/-- A command that ends with `done()` after a write to OBUF has changed nothing else (R183). -/
theorem finish_memWrite_obuf_frame (s : State) (a : Nat) (vs : List Byte) : (s.memWrite .obuf a vs).finish 0 =
    { s with obuf := ((s.memWrite .obuf a vs).finish 0).obuf, err := 0, done := true, cur := none, mi := 0,
             plan := [] } := rfl

/-- STS with its block not wholly inside OBUF (R102). -/
theorem exec_sts_of_lt {s : State} (h : s.params.bufcap < 16 * s.bidx.toNat + 16) :
    exec .sts s = .next (s.enterFatal .range) := by
  simp only [exec_eq, commandEffect, stsEffect, if_pos h, Effect.settle]

/-- The end of a command leaves what a read of a buffer answers. -/
@[simp] theorem readBuffer_finish (s : State) (bits : BitVec 4) (b : Buffer) (a : Nat) :
    (s.finish bits).readBuffer b a = s.readBuffer b a := by
  cases b <;> rfl

/-- A read of a buffer after a write of a block: byte `r + 4c` of the block is `S[r][c]` (R100). -/
theorem readBuffer_memWrite_block (s : State) (b : Buffer) (a : Nat) (T : Block) (r c : Fin 4) :
    (s.memWrite b a (blockBytes T)).readBuffer b (a + (r.val + 4 * c.val)) = blockByte T r c := by
  rw [readBuffer_memWrite, blockBytes_length, if_pos (And.intro rfl (by omega)), Nat.add_sub_cancel_left,
    blockBytes_getD]

/-- A write of a block leaves every byte outside its sixteen. -/
theorem readBuffer_memWrite_block_other (s : State) (b : Buffer) {a x : Nat} (T : Block)
    (h : x < a ∨ a + 16 ≤ x) : (s.memWrite b a (blockBytes T)).readBuffer b x = s.readBuffer b x := by
  rw [readBuffer_memWrite, blockBytes_length, if_neg (by omega)]

/-! ## Commands one after another -/

@[simp] theorem runCommands_nil (s : State) : runCommands [] s = .next s := rfl

/-- A command that answers a next state is the first of a sequence. -/
theorem runCommands_cons {i : Instr} {s t : State} (h : exec i s = .next t) (is : List Instr) :
    runCommands (i :: is) s = runCommands is t := by rw [runCommands, h]

@[simp] theorem doneWith_S (s : State) (b : Block) : (s.doneWith b).S = b := rfl

@[simp] theorem doneWith_w (s : State) (b : Block) : (s.doneWith b).w = s.w := rfl

@[simp] theorem doneWith_doneWith (s : State) (a b : Block) : (s.doneWith a).doneWith b = s.doneWith b := rfl

/-- Two commands that are pure transforms of S, the second undoing the first, leave S as it was. -/
theorem runCommands_undo {i j : Instr} {f g : Block → Block} (hi : commandEffect i = transformEffect f)
    (hj : commandEffect j = transformEffect g) (hgf : ∀ T, g (f T) = T) (s : State) :
    runCommands [i, j] s = .next (s.doneWith s.S) := by
  rw [runCommands_cons (exec_of_transform hi s), runCommands_cons (exec_of_transform hj _), runCommands_nil,
    doneWith_doneWith, doneWith_S, hgf]

/-- ARK twice with the same round index leaves S as it was (R111). -/
theorem runCommands_ark_twice {s : State} {r : Nat} (hk : s.kvalid = true) (hr : r ≤ s.nr.toNat) :
    runCommands [.ark r, .ark r] s = .next (s.doneWith s.S) := by
  rw [runCommands_cons (exec_ark_of_le hk hr), runCommands_cons (exec_ark_of_le (by exact hk) (by exact hr)),
    runCommands_nil, doneWith_doneWith, doneWith_S, doneWith_w, addRoundKey_addRoundKey]

/-- SUB, SHR and MIX are pure transforms of S; the remaining one is ARK (R110). -/
theorem transform_cases {i : Instr}
    (h : i = .subE ∨ i = .subD ∨ i = .shrE ∨ i = .shrD ∨ i = .mixE ∨ i = .mixD ∨ ∃ r, i = .ark r) :
    (∃ f, commandEffect i = transformEffect f) ∨ ∃ r, i = .ark r := by
  obtain rfl | rfl | rfl | rfl | rfl | rfl | hark := h
  case inr.inr.inr.inr.inr.inr => exact .inr hark
  all_goals exact .inl ⟨_, rfl⟩

end Sys2Proof.Machine

open Sys2Proof Sys2Proof.Machine

/-- Settles O33: byte by byte, by what `subBytes` and `invSubBytes` leave. -/
theorem subReplacesEveryByte : Obligations.SubReplacesEveryByte :=
  ⟨by decide, by decide, sbox_ne_self, fun s =>
    ⟨⟨_, exec_of_transform rfl s, blockByte_subBytes s.S⟩, ⟨_, exec_of_transform rfl s, blockByte_invSubBytes s.S⟩⟩⟩

/-- Settles O34: the column of the statement is the sum, the difference, taken in `Fin 4`. -/
theorem shrRotatesTheRows : Obligations.ShrRotatesTheRows := by
  refine ⟨by decide, by decide, fun s => ⟨⟨_, exec_of_transform rfl s, fun r c c' hc => ?_⟩,
    ⟨_, exec_of_transform rfl s, fun r c c' hc => ?_⟩⟩⟩
  · have hsum : c' = c + r := by omega
    rw [blockByte_shiftRows, hsum]
  · have hdiff : c' = c - r := by omega
    rw [blockByte_invShiftRows, hdiff]

/-- Settles O35, column by column. -/
theorem mixCombinesTheColumns : Obligations.MixCombinesTheColumns := by
  refine ⟨by decide, by decide, fun s => ⟨⟨_, exec_of_transform rfl s, fun i c => ?_⟩,
    ⟨_, exec_of_transform rfl s, fun i c => ?_⟩⟩⟩
  · simp only [blockByte, mixColumns, blockColumn_mapColumns, wordByte_mixColumn]
  · simp only [blockByte, invMixColumns, blockColumn_mapColumns, wordByte_invMixColumn]

/-- Settles O36: the two words of ARK, and its three outcomes. -/
theorem arkAddsTheRoundKey : Obligations.ArkAddsTheRoundKey := by
  refine ⟨fun r => ⟨decode_ark_iff.2 ⟨r, .inl rfl, rfl⟩, decode_ark_iff.2 ⟨r, .inr rfl, rfl⟩⟩, fun s r =>
    ⟨fun hk hr => ⟨_, exec_ark_of_le hk hr, fun row col => ?_⟩, exec_ark_of_noKey r, exec_ark_of_lt⟩⟩
  rw [blockByte_addRoundKey, blockByte_roundKey]

/-- Settles O37: S is the block of IBUF that BIDX names, byte by byte. -/
theorem ldsLoadsTheBlock : Obligations.LdsLoadsTheBlock :=
  ⟨by decide, fun _ => ⟨fun h => ⟨_, exec_lds_of_le h, blockByte_blockOfBytes _⟩, exec_lds_of_lt⟩⟩

/-- Settles O38: reads of OBUF after the write of the block, inside and outside its range. -/
theorem stsStoresTheBlock : Obligations.StsStoresTheBlock := by
  refine ⟨by decide, fun s => ⟨fun h => ⟨_, exec_sts_of_le h, finish_memWrite_obuf_frame s _ _,
    fun r c => ?_, fun a ha => ?_⟩, exec_sts_of_lt⟩⟩
  · rw [readBuffer_finish, readBuffer_memWrite_block]
  · rw [readBuffer_finish, readBuffer_memWrite_block_other s .obuf s.S ha]

/-- Settles O39: a pure transform of S is a function of S; ARK reads its checks and its round key besides. -/
theorem transformsWriteOnlyTheState : Obligations.TransformsWriteOnlyTheState := by
  intro i s t hi ht
  obtain ⟨f, hf⟩ | ⟨r, rfl⟩ := transform_cases hi
  · have e := eq_doneWith_of_transform hf ht
    refine ⟨?_, .inl ?_, fun s' t' hs ht' _ => ?_⟩
    · obtain rfl | rfl | rfl | rfl | rfl | rfl | ⟨r, rfl⟩ := hi <;> rfl
    · rw [e, doneWith_S]
    · rw [e, eq_doneWith_of_transform hf ht', doneWith_S, doneWith_S, hs]
  · refine ⟨rfl, ?_, fun s' t' hs ht' hreads => ?_⟩
    · obtain ⟨-, he⟩ | ⟨-, c, he⟩ := exec_ark_cases r s <;> cases he.symm.trans ht
      · exact .inl rfl
      · exact .inr ⟨rfl, rfl, rfl, r, rfl⟩
    · obtain ⟨hk, hnr, hw⟩ := hreads r rfl
      rw [exec_ark_S ht, exec_ark_S ht', hk, hnr, hs, addRoundKey_congr hw]

/-- Settles O41, pair by pair. -/
theorem inverseTransformsUndo : Obligations.InverseTransformsUndo := fun s =>
  ⟨runCommands_undo rfl rfl invShiftRows_shiftRows s, runCommands_undo rfl rfl shiftRows_invShiftRows s,
    runCommands_undo rfl rfl invSubBytes_subBytes s, runCommands_undo rfl rfl subBytes_invSubBytes s,
    runCommands_undo rfl rfl invMixColumns_mixColumns s, runCommands_undo rfl rfl mixColumns_invMixColumns s,
    fun _ => runCommands_ark_twice⟩
end

section
/-! PROOFS. The block cipher as commands and as state machines (R120 to R126), and the statements O42 to O46. -/

namespace Sys2Proof.Machine

/-! ## CIPH as a command (R120, R121) -/

/-- CIPH.E with a valid schedule completes. -/
theorem exec_ciphE_of_key {s : State} (hk : s.kvalid = true) :
    exec .ciphE s = .next (s.doneWith (encryptBlock s.S s.w s.nr.toNat)) := by
  rw [exec_eq, commandEffect, ciphEEffect_of_key hk]
  rfl

/-- CIPH.D with a valid schedule completes. -/
theorem exec_ciphD_of_key {s : State} (hk : s.kvalid = true) :
    exec .ciphD s = .next (s.doneWith (decryptBlock s.S s.w s.nr.toNat)) := by
  rw [exec_eq, commandEffect, ciphDEffect_of_key hk]
  rfl

/-- CIPH without a valid schedule is fatal, in both directions. -/
theorem exec_ciph_of_noKey {i : Instr} {s : State} (hi : i = .ciphE ∨ i = .ciphD) (hk : s.kvalid = false) :
    exec i s = .next (s.enterFatal .noKey) := by
  obtain rfl | rfl := hi
  · rw [exec_eq, commandEffect, ciphEEffect_of_noKey hk, Effect.settle]
  · rw [exec_eq, commandEffect, ciphDEffect_of_noKey hk, Effect.settle]

@[simp] theorem doneWith_nr (s : State) (b : Block) : (s.doneWith b).nr = s.nr := rfl

/-! ## The primitive commands one by one (R125)

Every command of a round leaves `s.doneWith b` for some block `b`, so a list of them is followed block by block. -/

/-- A pure transform of S as the first of a sequence. -/
theorem runCommands_transform {i : Instr} {f : Block → Block} (h : commandEffect i = transformEffect f) (s : State)
    (b : Block) (is : List Instr) : runCommands (i :: is) (s.doneWith b) = runCommands is (s.doneWith (f b)) :=
  runCommands_cons (exec_of_transform h (s.doneWith b)) is

section Keyed

variable {s : State} {r : Nat} (hk : s.kvalid = true)
include hk

/-- ARK in range as the first of a sequence. -/
theorem runCommands_ark (hr : r ≤ s.nr.toNat) (b : Block) (is : List Instr) :
    runCommands (.ark r :: is) (s.doneWith b) = runCommands is (s.doneWith (addRoundKey s.w r b)) :=
  runCommands_cons (exec_ark_of_le (s := s.doneWith b) hk hr) is

/-- A middle round of the encryptor (R120). -/
theorem runCommands_encryptRound (hr : r ≤ s.nr.toNat) (b : Block) (is : List Instr) :
    runCommands ([.subE, .shrE, .mixE, .ark r] ++ is) (s.doneWith b) =
      runCommands is (s.doneWith (encryptRound s.w r b)) := by
  simp only [List.cons_append, List.nil_append]
  rw [runCommands_transform rfl, runCommands_transform rfl, runCommands_transform rfl, runCommands_ark hk hr]
  rfl

/-- A middle round of the decryptor (R121). -/
theorem runCommands_decryptRound (hr : r ≤ s.nr.toNat) (b : Block) (is : List Instr) :
    runCommands ([.shrD, .subD, .ark r, .mixD] ++ is) (s.doneWith b) =
      runCommands is (s.doneWith (decryptRound s.w r b)) := by
  simp only [List.cons_append, List.nil_append]
  rw [runCommands_transform rfl, runCommands_transform rfl, runCommands_ark hk hr, runCommands_transform rfl]
  rfl

/-- The middle rounds of the encryptor, ascending. -/
theorem runCommands_encryptRounds (n : Nat) (hn : n ≤ s.nr.toNat) (b : Block) (is : List Instr) :
    runCommands (((List.range' 1 n).flatMap fun r => [.subE, .shrE, .mixE, .ark r]) ++ is) (s.doneWith b) =
      runCommands is (s.doneWith (encryptRounds s.w n b)) := by
  induction n generalizing is with
  | zero => rfl
  | succ n ih =>
    rw [List.range'_1_concat, List.flatMap_append, List.flatMap_singleton, List.append_assoc, ih (by omega),
      Nat.add_comm 1 n, runCommands_encryptRound hk hn]
    rfl

/-- The middle rounds of the decryptor, descending. -/
theorem runCommands_decryptRounds (n : Nat) (hn : n ≤ s.nr.toNat) (b : Block) (is : List Instr) :
    runCommands (((List.range' 1 n).reverse.flatMap fun r => [.shrD, .subD, .ark r, .mixD]) ++ is) (s.doneWith b) =
      runCommands is (s.doneWith (decryptRounds s.w n b)) := by
  induction n generalizing b with
  | zero => rfl
  | succ n ih =>
    rw [List.range'_1_concat, List.reverse_concat, List.flatMap_cons, List.append_assoc, Nat.add_comm 1 n,
      runCommands_decryptRound hk hn, ih (by omega)]
    rfl

/-- The commands of CIPH.E issued one by one (R125). -/
theorem runCommands_ciphECommands :
    runCommands (ciphECommands s.nr.toNat) s = .next (s.doneWith (encryptBlock s.S s.w s.nr.toNat)) := by
  simp only [ciphECommands, List.flatten_cons, List.flatten_nil, List.append_nil, List.cons_append, List.nil_append]
  rw [runCommands_cons (exec_ark_of_le hk (Nat.zero_le _)), runCommands_encryptRounds hk _ (Nat.sub_le _ _),
    runCommands_transform rfl, runCommands_transform rfl, runCommands_ark hk (Nat.le_refl _), runCommands_nil]
  rfl

/-- The commands of CIPH.D issued one by one (R125). -/
theorem runCommands_ciphDCommands :
    runCommands (ciphDCommands s.nr.toNat) s = .next (s.doneWith (decryptBlock s.S s.w s.nr.toNat)) := by
  simp only [ciphDCommands, List.flatten_cons, List.flatten_nil, List.append_nil, List.cons_append, List.nil_append]
  rw [runCommands_cons (exec_ark_of_le hk (Nat.le_refl _)), runCommands_decryptRounds hk _ (Nat.sub_le _ _),
    runCommands_transform rfl, runCommands_transform rfl, runCommands_ark hk (Nat.zero_le _), runCommands_nil]
  rfl

end Keyed

/-! ## The round trip (R124)

The two directions cut their lists into rounds at different places: a middle round of the decryptor takes back a middle round
of the encryptor between the SUB and SHR of two consecutive rounds. So the middle rounds are compared on
`shiftRows (subBytes ·)` in one order and on `invSubBytes (invShiftRows ·)` in the other. -/

/-- The middle rounds of the decryptor take back those of the encryptor, up to SUB and SHR of the round that follows. -/
theorem decryptRounds_encryptRounds (w : Vector Word 60) (n : Nat) (b : Block) :
    decryptRounds w n (shiftRows (subBytes (encryptRounds w n b))) = shiftRows (subBytes b) := by
  induction n with
  | zero => rfl
  | succ n ih =>
    rw [decryptRounds, encryptRounds, decryptRound, encryptRound, invShiftRows_shiftRows, invSubBytes_subBytes,
      addRoundKey_addRoundKey, invMixColumns_mixColumns, ih]

/-- The middle rounds of the encryptor take back those of the decryptor, up to SHR and SUB of the round that follows. -/
theorem encryptRounds_decryptRounds (w : Vector Word 60) (n : Nat) (b : Block) :
    encryptRounds w n (invSubBytes (invShiftRows (decryptRounds w n b))) = invSubBytes (invShiftRows b) := by
  induction n generalizing b with
  | zero => rfl
  | succ n ih =>
    rw [encryptRounds, decryptRounds, ih, encryptRound, decryptRound, subBytes_invSubBytes, shiftRows_invShiftRows,
      mixColumns_invMixColumns, addRoundKey_addRoundKey]

theorem decryptBlock_encryptBlock (b : Block) (w : Vector Word 60) (nr : Nat) :
    decryptBlock (encryptBlock b w nr) w nr = b := by
  rw [decryptBlock, encryptBlock, addRoundKey_addRoundKey, decryptRounds_encryptRounds, invShiftRows_shiftRows,
    invSubBytes_subBytes, addRoundKey_addRoundKey]

theorem encryptBlock_decryptBlock (b : Block) (w : Vector Word 60) (nr : Nat) :
    encryptBlock (decryptBlock b w nr) w nr = b := by
  rw [encryptBlock, decryptBlock, addRoundKey_addRoundKey, encryptRounds_decryptRounds, subBytes_invSubBytes,
    shiftRows_invShiftRows, addRoundKey_addRoundKey]

/-! ## What the cipher reads of the schedule (R126) -/

section Congr

variable {w w' : Vector Word 60} {n : Nat}

theorem encryptRounds_congr (h : ∀ r, r ≤ n → addRoundKey w r = addRoundKey w' r) :
    encryptRounds w n = encryptRounds w' n := by
  induction n with
  | zero => rfl
  | succ n ih =>
    funext b
    rw [encryptRounds, encryptRounds, ih fun r hr => h r (Nat.le_succ_of_le hr), encryptRound, encryptRound,
      h _ (Nat.le_refl _)]

theorem decryptRounds_congr (h : ∀ r, r ≤ n → addRoundKey w r = addRoundKey w' r) :
    decryptRounds w n = decryptRounds w' n := by
  induction n with
  | zero => rfl
  | succ n ih =>
    funext b
    rw [decryptRounds, decryptRounds, ih fun r hr => h r (Nat.le_succ_of_le hr), decryptRound, decryptRound,
      h _ (Nat.le_refl _)]

theorem encryptBlock_congr (h : ∀ r, r ≤ n → addRoundKey w r = addRoundKey w' r) (b : Block) :
    encryptBlock b w n = encryptBlock b w' n := by
  rw [encryptBlock, encryptBlock, h n (Nat.le_refl _), h 0 (Nat.zero_le _),
    encryptRounds_congr fun r hr => h r (Nat.le_trans hr (Nat.sub_le _ _))]

theorem decryptBlock_congr (h : ∀ r, r ≤ n → addRoundKey w r = addRoundKey w' r) (b : Block) :
    decryptBlock b w n = decryptBlock b w' n := by
  rw [decryptBlock, decryptBlock, h n (Nat.le_refl _), h 0 (Nat.zero_le _),
    decryptRounds_congr fun r hr => h r (Nat.le_trans hr (Nat.sub_le _ _))]

/-- Words 0 to `4n + 3` hold the round keys 0 to `n` (R16). -/
theorem addRoundKey_eq_of_words (h : ∀ j, j ≤ 4 * n + 3 → scheduleWord w j = scheduleWord w' j) (r : Nat)
    (hr : r ≤ n) : addRoundKey w r = addRoundKey w' r :=
  funext fun b => addRoundKey_congr (fun c => h _ (by omega)) b

end Congr

/-! ## The state machines (R122) -/

section Machines

variable {nr rnd : BitVec 4}

/-- The encryptor's states of a middle round, from E_SUB back to E_SUB. -/
theorem encTrace_middleRound (h : rnd < nr) (steps : Nat) : encTrace nr (steps + 4) .sub rnd =
    [.subE, .shrE, .mixE, .ark rnd.toNat] ++ encTrace nr steps .sub (rnd + 1) := by
  simp only [encTrace, encAction, encNext, if_pos h, List.cons_append, List.nil_append]

/-- The encryptor's states of the final round, from E_SUB to END. -/
theorem encTrace_finalRound (nr : BitVec 4) (steps : Nat) :
    encTrace nr (steps + 3) .sub nr = [.subE, .shrE, .ark nr.toNat] := by
  simp [encTrace, encAction, encNext]

/-- The encryptor at E_SUB before round `r + 1`, with `k` middle rounds to come, continues the list after round `r`. -/
theorem encryptMiddle_append_encTrace {r k : Nat} (hr : rnd.toNat = r + 1) (hk : r + k + 1 = nr.toNat) (steps : Nat) :
    encryptMiddle r ++ encTrace nr (steps + 3 + 4 * k) .sub rnd =
      encryptMiddle (r + k) ++ [.subE, .shrE, .ark nr.toNat] := by
  induction k generalizing r rnd with
  | zero =>
    obtain rfl : rnd = nr := BitVec.eq_of_toNat_eq (hr.trans hk)
    exact congrArg (encryptMiddle r ++ ·) (encTrace_finalRound rnd steps)
  | succ k ih =>
    have hlt : rnd < nr := by rw [BitVec.lt_def]; omega
    have hnext : (rnd + 1).toNat = r + 1 + 1 := by bv_omega
    have hlist : encryptMiddle r ++ [.subE, .shrE, .mixE, .ark (r + 1)] = encryptMiddle (r + 1) := rfl
    rw [Nat.mul_succ, ← Nat.add_assoc, encTrace_middleRound hlt, hr, ← List.append_assoc, hlist,
      ih hnext (by omega), Nat.add_right_comm r 1 k, Nat.add_assoc r k 1]

/-- The decryptor's states of a middle round, from D_SHR back to D_SHR. -/
theorem decTrace_middleRound (h : 0 < rnd) (steps : Nat) : decTrace nr (steps + 4) .shr rnd =
    [.shrD, .subD, .ark rnd.toNat, .mixD] ++ decTrace nr steps .shr (rnd - 1) := by
  simp only [decTrace, decAction, decNext, if_pos h, List.cons_append, List.nil_append]

/-- The decryptor's states of the final round, from D_SHR to END. -/
theorem decTrace_finalRound (steps : Nat) : decTrace nr (steps + 3) .shr 0 = [.shrD, .subD, .ark 0] := by
  simp [decTrace, decAction, decNext]

/-- The decryptor at D_SHR with RND = `n` performs the middle rounds `n..1` and the final one. -/
theorem decTrace_shr {n : Nat} (hn : rnd.toNat = n) (steps : Nat) :
    decTrace nr (steps + 3 + 4 * n) .shr rnd = decryptMiddle n ++ [.shrD, .subD, .ark 0] := by
  induction n generalizing rnd with
  | zero =>
    obtain rfl : rnd = 0 := BitVec.eq_of_toNat_eq hn
    exact decTrace_finalRound steps
  | succ n ih =>
    have hpos : 0 < rnd := by rw [BitVec.lt_def]; simp [hn]
    have hnext : (rnd - 1).toNat = n := by bv_omega
    rw [Nat.mul_succ, ← Nat.add_assoc, decTrace_middleRound hpos, hn, ih hnext, decryptMiddle, List.append_assoc]

/-- The encryptor from E_INIT, whatever RND held before. -/
theorem encTrace_init (h : 0 < nr.toNat) {steps : Nat} (hs : 4 * nr.toNat ≤ steps) :
    encTrace nr steps .init rnd = ciphEUops nr.toNat := by
  obtain ⟨more, rfl⟩ : ∃ more, steps = more + 3 + 4 * (nr.toNat - 1) + 1 := ⟨steps - 4 * nr.toNat, by omega⟩
  have hrounds := encryptMiddle_append_encTrace (nr := nr) (rnd := 1) (r := 0) (k := nr.toNat - 1) rfl (by omega) more
  rw [Nat.zero_add] at hrounds
  exact congrArg (MicroOp.ark 0 :: ·) hrounds

/-- The decryptor from D_INIT, whatever RND held before. -/
theorem decTrace_init (h : 0 < nr.toNat) {steps : Nat} (hs : 4 * nr.toNat ≤ steps) :
    decTrace nr steps .init rnd = ciphDUops nr.toNat := by
  obtain ⟨more, rfl⟩ : ∃ more, steps = more + 3 + 4 * (nr.toNat - 1) + 1 := ⟨steps - 4 * nr.toNat, by omega⟩
  have hfirst : (nr - 1).toNat = nr.toNat - 1 := by bv_omega
  exact congrArg (MicroOp.ark nr.toNat :: ·) (decTrace_shr hfirst more)

end Machines

end Sys2Proof.Machine

open Sys2Proof Sys2Proof.Machine

/-- Settles O42: the command and its list of commands leave the same block, and without a schedule both forms are fatal. -/
theorem ciphIsItsPrimitiveCommands : Obligations.CiphIsItsPrimitiveCommands :=
  ⟨by decide, by decide,
    fun _ hk => ⟨⟨_, exec_ciphE_of_key hk, runCommands_ciphECommands hk⟩,
      ⟨_, exec_ciphD_of_key hk, runCommands_ciphDCommands hk⟩⟩,
    fun _ hk => ⟨exec_ciph_of_noKey (.inl rfl) hk, exec_ciph_of_noKey (.inr rfl) hk⟩⟩

/-- Settles O43: the second command runs on the block and the schedule the first one leaves. -/
theorem cipherRoundTrip : Obligations.CipherRoundTrip := by
  refine fun s hk => ⟨?_, ?_⟩
  · rw [runCommands_cons (exec_ciphE_of_key hk), runCommands_cons (exec_ciphD_of_key (by exact hk)), runCommands_nil,
      doneWith_doneWith, doneWith_S, doneWith_w, doneWith_nr, decryptBlock_encryptBlock]
  · rw [runCommands_cons (exec_ciphD_of_key hk), runCommands_cons (exec_ciphE_of_key (by exact hk)), runCommands_nil,
      doneWith_doneWith, doneWith_S, doneWith_w, doneWith_nr, encryptBlock_decryptBlock]

/-- Settles O44: without a schedule S is kept; with one, both states hold the same block and the same round keys. -/
theorem cipherReadsNoOtherState : Obligations.CipherReadsNoOtherState := by
  intro i s s' t t' hi hS hnr hkv hw ht ht'
  have hround := addRoundKey_eq_of_words hw
  cases hk : s.kvalid with
  | false =>
    cases (exec_ciph_of_noKey hi hk).symm.trans ht
    cases (exec_ciph_of_noKey hi (hkv ▸ hk)).symm.trans ht'
    exact hS
  | true =>
    obtain rfl | rfl := hi
    · cases (exec_ciphE_of_key hk).symm.trans ht
      cases (exec_ciphE_of_key (hkv ▸ hk)).symm.trans ht'
      rw [doneWith_S, doneWith_S, ← hS, ← hnr, encryptBlock_congr hround]
    · cases (exec_ciphD_of_key hk).symm.trans ht
      cases (exec_ciphD_of_key (hkv ▸ hk)).symm.trans ht'
      rw [doneWith_S, doneWith_S, ← hS, ← hnr, decryptBlock_congr hround]

/-- Settles O46: both machines follow their lists for every NR but 0. -/
theorem cipherMachinesFollowTheLists : Obligations.CipherMachinesFollowTheLists := by
  intro nr hnr rnd steps hs
  have hpos : 0 < nr.toNat := by obtain rfl | rfl := hnr <;> decide
  exact ⟨encTrace_init hpos hs, decTrace_init hpos hs⟩

/-- Settles O45: both commands complete, and the block they leave is computed. -/
theorem zeroKeyKnownAnswer : Obligations.ZeroKeyKnownAnswer := by
  refine ⟨_, (runCommands_cons (exec_kexp_of_key ?_) _).trans (runCommands_cons (exec_ciphE_of_key rfl) []), ?_⟩
  · decide
  · decide +kernel
end

section
/-! PROOFS. The framer (R141 to R146), and the statements O47 to O49. -/

namespace Sys2Proof.Machine

/-! ## The pad count (R142, R143, R148) -/

theorem padOf_le (p : PadAligned) (len : Nat) : padOf p len ≤ 16 := by
  unfold padOf
  split
  · omega
  · cases p <;> decide

theorem padOf_full (len : Nat) : padOf .full len = 16 - len % 16 := by
  unfold padOf
  split
  · rfl
  · next haligned => rw [Decidable.not_not.1 haligned]

/-- Nothing is appended only to whole blocks, and only under NONE (R143). -/
theorem padOf_eq_zero_iff {p : PadAligned} {len : Nat} : padOf p len = 0 ↔ p = .none ∧ len % 16 = 0 := by
  cases p with
  | full => simp [padOf_full, Nat.sub_eq_zero_iff_le, Nat.mod_lt len]
  | none =>
    simp only [padOf, true_and]
    split <;> omega

/-- The padded string is whole blocks (R142). -/
theorem add_padOf_mod (p : PadAligned) (len : Nat) : (len + padOf p len) % 16 = 0 := by
  unfold padOf
  split
  · omega
  · cases p <;> simp only <;> omega

/-- What does not fill a buffer of whole blocks fits it when padded (R141). -/
theorem add_padOf_le {p : PadAligned} {len cap : Nat} (hcap : cap % 16 = 0) (h : len < cap) :
    len + padOf p len ≤ cap := by
  have hmod := add_padOf_mod p len
  have hle := padOf_le p len
  omega

/-- The buffers hold whole blocks (R7). -/
theorem bufcap_mod_of_paramsOk {s : State} (h : s.paramsOk = true) : s.params.bufcap % 16 = 0 := by
  simp only [State.paramsOk, Params.admissible, Bool.and_eq_true, beq_iff_eq] at h
  exact h.1.1

/-! ## FRM.E (R141) -/

theorem paddedLength_eq (s : State) : s.paddedLength = s.ilen + padOf s.params.padAligned s.ilen :=
  congrArg (s.ilen + ·) (padCount_eq_padOf _ _)

theorem paddingFits_iff {s : State} :
    s.paddingFits = true ↔ s.ilen + padOf s.params.padAligned s.ilen ≤ s.params.bufcap := by
  rw [State.paddingFits, decide_eq_true_iff, paddedLength_eq]

/-- The input with `pad` bytes of value `pad` after it: what FRM.E makes of it when that fits. -/
def State.padInput (s : State) (pad : Nat) : State :=
  { s.memWrite .ibuf s.ilen (List.replicate pad (BitVec.ofNat 8 pad)) with ilen := s.ilen + pad }

@[simp] theorem padInput_ilen (s : State) (pad : Nat) : (s.padInput pad).ilen = s.ilen + pad := rfl

/-- A read of the padded input: a pad byte in the appended range, what was there outside it. -/
theorem readBuffer_padInput (s : State) (pad a : Nat) : (s.padInput pad).readBuffer .ibuf a =
    if s.ilen ≤ a ∧ a < s.ilen + pad then BitVec.ofNat 8 pad else s.readBuffer .ibuf a := by
  refine (readBuffer_memWrite s .ibuf .ibuf s.ilen a (List.replicate pad (BitVec.ofNat 8 pad))).trans ?_
  rw [List.length_replicate]
  by_cases h : s.ilen ≤ a ∧ a < s.ilen + pad
  · have hlt : a - s.ilen < pad := by omega
    rw [if_pos ⟨rfl, h⟩, if_pos h, List.getD_eq_getElem?_getD, List.getElem?_replicate_of_lt hlt, Option.getD_some]
  · rw [if_neg fun h' => h h'.2, if_neg h]

theorem readBuffer_padInput_of_lt {s : State} {a : Nat} (pad : Nat) (h : a < s.ilen) :
    (s.padInput pad).readBuffer .ibuf a = s.readBuffer .ibuf a := by
  rw [readBuffer_padInput, if_neg (by omega)]

/-- FRM.E with a padded input that fits completes and pads. -/
theorem exec_frmE_of_le {s : State} (h : s.ilen + padOf s.params.padAligned s.ilen ≤ s.params.bufcap) :
    exec .frmE s = .next ((s.padInput (padOf s.params.padAligned s.ilen)).finish 0) := by
  rw [exec_eq, commandEffect, frmEEffect, paddingFits_iff.2 h, if_neg (by decide), padCount_eq_padOf, paddedLength_eq]
  rfl

/-- FRM.E with a padded input that does not fit is fatal. -/
theorem exec_frmE_of_lt {s : State} (h : s.params.bufcap < s.ilen + padOf s.params.padAligned s.ilen) :
    exec .frmE s = .next (s.enterFatal .range) := by
  have hfits : s.paddingFits = false :=
    Bool.eq_false_iff.2 fun hfits => Nat.not_le.2 h (paddingFits_iff.1 hfits)
  rw [exec_eq, commandEffect, frmEEffect, if_pos hfits, Effect.settle]

/-! ## The validation predicate (R145) -/

/-- The padding of a string is a matter of its bytes alone. -/
theorem paddedBy_congr {f g : Nat → Byte} {len p : Nat} (h : ∀ a, a < len → f a = g a) :
    PaddedBy f len p ↔ PaddedBy g len p := by
  refine and_congr_right fun _ => and_congr_right fun _ => and_congr_right fun _ => ?_
  exact forall_congr' fun a => imp_congr_right fun _ => forall_congr' fun ha => by rw [h a ha]

/-- The last byte of a padded string is the pad count. -/
theorem PaddedBy.toNat_last {f : Nat → Byte} {len p : Nat} (h : PaddedBy f len p) : (f (len - 1)).toNat = p := by
  obtain ⟨hpos, hle, hlen, hbytes⟩ := h
  rw [hbytes (len - 1) (by omega) (by omega), BitVec.toNat_ofNat, Nat.mod_eq_of_lt (by omega)]

/-- A last byte 0x01 is padding by itself (R144). -/
theorem paddedBy_one {f : Nat → Byte} {len : Nat} (hlen : 0 < len) (h : f (len - 1) = 1) : PaddedBy f len 1 := by
  refine ⟨by decide, by decide, hlen, fun a hge hlt => ?_⟩
  obtain rfl : a = len - 1 := by omega
  exact h

/-- The bytes FRM.E appends are padding (R146). -/
theorem paddedBy_padInput (s : State) {pad : Nat} (hpos : 0 < pad) (hle : pad ≤ 16) :
    PaddedBy ((s.padInput pad).readBuffer .ibuf) (s.ilen + pad) pad :=
  ⟨hpos, hle, Nat.le_add_left _ _, fun a hge hlt => by rw [readBuffer_padInput, if_pos (by omega)]⟩

theorem lastByte_lt (s : State) : s.lastByte < 2 ^ 8 := (s.readBuffer .obuf (s.olen - 1)).isLt

/-- The engine's check, which looks at the last byte only for the candidate, holds exactly when some `p` pads the output. -/
theorem paddingValid_iff {s : State} (h : s.olen % 16 = 0) :
    s.paddingValid = true ↔ PaddedBy (s.readBuffer .obuf) s.olen s.lastByte := by
  unfold State.paddingValid
  split
  · next hzero =>
    refine iff_of_false (by decide) fun ⟨hpos, _, hlen, _⟩ => ?_
    omega
  · next hne =>
    have hbyte : ∀ x : Byte, x.toNat = s.lastByte ↔ x = BitVec.ofNat 8 s.lastByte := fun x => by
      rw [← BitVec.toNat_inj, BitVec.toNat_ofNat, Nat.mod_eq_of_lt (lastByte_lt s)]
    simp only [Bool.and_eq_true, decide_eq_true_eq, List.all_eq_true, List.mem_range, beq_iff_eq, hbyte]
    constructor
    · rintro ⟨⟨hpos, hle⟩, hbytes⟩
      refine ⟨hpos, hle, by omega, fun a hge hlt => ?_⟩
      obtain ⟨k, hk, rfl⟩ : ∃ k, k < s.lastByte ∧ a = s.olen - 1 - k := ⟨s.olen - 1 - a, by omega, by omega⟩
      exact hbytes k hk
    · rintro ⟨hpos, hle, hlen, hbytes⟩
      exact ⟨⟨hpos, hle⟩, fun k hk => hbytes _ (by omega) (by omega)⟩

/-! ## FRM.D (R144) -/

/-- FRM.D on padded whole blocks strips the padding. -/
theorem exec_frmD_of_padded {s : State} {p : Nat} (h : s.olen % 16 = 0) (hp : PaddedBy (s.readBuffer .obuf) s.olen p) :
    exec .frmD s = .next (State.finish { s with olen := s.olen - p } 0) := by
  obtain rfl : s.lastByte = p := hp.toNat_last
  rw [exec_eq, commandEffect, frmDEffect, if_neg (not_not_intro h), if_pos ((paddingValid_iff h).2 hp), Effect.settle]

/-- FRM.D on whole blocks that are not padded reports PVF. -/
theorem exec_frmD_of_unpadded {s : State} (h : s.olen % 16 = 0)
    (hp : ∀ p, ¬ PaddedBy (s.readBuffer .obuf) s.olen p) : exec .frmD s = .next (s.finish errPVF) := by
  rw [exec_eq, commandEffect, frmDEffect, if_neg (not_not_intro h), if_neg fun hv => hp _ ((paddingValid_iff h).1 hv),
    Effect.settle]

/-- FRM.D on a partial block is fatal. -/
theorem exec_frmD_of_partial {s : State} (h : s.olen % 16 ≠ 0) : exec .frmD s = .next (s.enterFatal .length) := by
  rw [exec_eq, commandEffect, frmDEffect, if_pos h, Effect.settle]

/-- FRM.D on whole blocks completes and writes no byte; what it does to OLEN and ERR is decided by the padding. -/
theorem exec_frmD_of_wholeBlocks {s : State} (h : s.olen % 16 = 0) : ∃ t, exec .frmD s = .next t ∧
    t.olen ≤ s.olen ∧ (∀ a, t.readBuffer .obuf a = s.readBuffer .obuf a) ∧
    (∀ p, PaddedBy (s.readBuffer .obuf) s.olen p → t.olen = s.olen - p ∧ t.err = 0) ∧
    ((∀ p, ¬ PaddedBy (s.readBuffer .obuf) s.olen p) → t.olen = s.olen ∧ t.err = 8) := by
  by_cases hex : ∃ p, PaddedBy (s.readBuffer .obuf) s.olen p
  · obtain ⟨p, hp⟩ := hex
    refine ⟨_, exec_frmD_of_padded h hp, Nat.sub_le _ _, readBuffer_finish _ _ _, fun q hq => ⟨?_, rfl⟩,
      fun hno => absurd hp (hno p)⟩
    rw [← hq.toNat_last, hp.toNat_last, finish_olen]
  · have hno := not_exists.1 hex
    exact ⟨_, exec_frmD_of_unpadded h hno, Nat.le_refl _, readBuffer_finish _ _ _, fun q hq => absurd hq (hno q),
      fun _ => ⟨rfl, rfl⟩⟩

end Sys2Proof.Machine

open Sys2Proof Sys2Proof.Machine

/-- Settles O47: reads of IBUF after the padding, inside and outside its range, and the arithmetic of FULL. -/
theorem frmEPadsInPlace : Obligations.FrmEPadsInPlace := by
  refine ⟨by decide, ?_⟩
  rintro s _ rfl
  refine ⟨fun h => ⟨_, exec_frmE_of_le h, rfl, fun a hge hlt => ?_, fun a ha => ?_⟩, exec_frmE_of_lt,
    fun hfull hp hle => ?_⟩
  · rw [readBuffer_finish, readBuffer_padInput, if_pos ⟨hge, hlt⟩]
  · rw [readBuffer_finish, readBuffer_padInput, if_neg (by omega)]
  · have hcap := bufcap_mod_of_paramsOk hp
    rw [hfull, padOf_full]
    omega

/-- Settles O48, by the engine's check of the padding. -/
theorem frmDStripsThePadding : Obligations.FrmDStripsThePadding :=
  ⟨by decide, fun _ => ⟨fun h _ hp => exec_frmD_of_padded h hp, exec_frmD_of_unpadded, exec_frmD_of_partial⟩⟩

/-- Settles O49: what FRM.E appends is padding and is stripped; where it appends nothing, the tail of the input decides. -/
theorem framerRoundTrip : Obligations.FramerRoundTrip := by
  intro s t u hp hlt ht hlen hbytes
  cases (exec_frmE_of_le (add_padOf_le (bufcap_mod_of_paramsOk hp) hlt)).symm.trans ht
  have hmod := add_padOf_mod s.params.padAligned s.ilen
  have hle := padOf_le s.params.padAligned s.ilen
  have hzero := padOf_eq_zero_iff (p := s.params.padAligned) (len := s.ilen)
  generalize padOf s.params.padAligned s.ilen = pad at *
  simp only [finish_ilen, padInput_ilen, readBuffer_finish] at hlen hbytes
  have hsame : ∀ a, a < s.ilen → u.readBuffer .obuf a = s.readBuffer .ibuf a := fun a ha =>
    (hbytes a (by omega)).trans (readBuffer_padInput_of_lt pad ha)
  obtain ⟨v, hv, hvle, hvbytes, hstrip, hkeep⟩ := exec_frmD_of_wholeBlocks (hlen ▸ hmod)
  obtain rfl | hpos := Nat.eq_zero_or_pos pad
  · have hnone := (hzero.1 rfl).1
    have hpad : ∀ p, PaddedBy (u.readBuffer .obuf) s.ilen p ↔ PaddedBy (s.readBuffer .ibuf) s.ilen p := fun p =>
      paddedBy_congr hsame
    rw [Nat.add_zero] at hlen
    rw [hlen] at hvle hstrip hkeep
    exact ⟨v, hv, fun a ha => (hvbytes a).trans (hsame a (Nat.lt_of_lt_of_le ha hvle)),
      fun hfull => absurd (hnone.symm.trans hfull) (by decide),
      fun _ _ hne hone => hstrip 1 ((hpad 1).2 (paddedBy_one hne hone)),
      fun _ _ hno => hkeep fun p hp => hno p ((hpad p).1 hp)⟩
  · have hup : PaddedBy (u.readBuffer .obuf) u.olen pad := by
      rw [hlen, paddedBy_congr hbytes]
      exact paddedBy_padInput s hpos hle
    obtain ⟨hvlen, hverr⟩ := hstrip pad hup
    rw [hlen, Nat.add_sub_cancel] at hvlen
    have hnot : ¬ (s.params.padAligned = .none ∧ s.ilen % 16 = 0) := fun h => Nat.ne_of_gt hpos (hzero.2 h)
    exact ⟨v, hv, fun a ha => (hvbytes a).trans (hsame a (hvlen ▸ ha)), fun _ => ⟨hvlen, hverr⟩,
      fun hnone haligned => absurd ⟨hnone, haligned⟩ hnot, fun hnone haligned => absurd ⟨hnone, haligned⟩ hnot⟩
end

section
/-! PROOFS. The stream commands (R161 to R169): their pre-flight, what the block loop leaves, and what that says of RUN.E, of
RUN.D and of the one after the other; and the statements O50, O51, O52, O54, O55. -/

namespace Sys2Proof.Machine

/-! ## The pre-flight (R161 to R163) -/

/-- The length check of RUN.D reports MCT for a partial block (R162). -/
theorem lengthCheck_eq (s : State) : s.lengthCheck = if s.ilen % 16 = 0 then 0 else 4 := by
  unfold State.lengthCheck errWhen
  by_cases h : s.ilen % 16 = 0 <;> simp [h, errMCT]

/-- The padded input fits the buffer exactly when its length does (R141). -/
theorem paddingFits_eq (s : State) : s.paddingFits = decide (s.paddedLength ≤ s.params.bufcap) := rfl

/-- The pre-flight of RUN.E with a padded input that fits is the key checks. -/
theorem preflightE_of_le {s : State} (h : s.paddedLength ≤ s.params.bufcap) : preflightE s = keyCheckEffect s := by
  rw [preflightE, paddingFits_eq, decide_eq_true h, if_neg (by decide)]

/-- RUN.E with a padded input that does not fit is fatal, whatever the key. -/
theorem exec_runE_of_lt {s : State} (h : s.params.bufcap < s.paddedLength) :
    exec .runE s = .next (s.enterFatal .range) := by
  rw [exec_eq, commandEffect, runEEffect, preflightE, paddingFits_eq, decide_eq_false (Nat.not_le.2 h), if_pos rfl]
  rfl

/-- RUN.E with a key of another length aborts. -/
theorem exec_runE_of_badKey {s : State} (hle : s.paddedLength ≤ s.params.bufcap)
    (hk : s.klen.toNat ≠ keyBytes s.ks) : exec .runE s =
      .next (State.abort { s with kvalid := false } (if s.klen.toNat < keyBytes s.ks then 3 else 1)) := by
  rw [exec_eq, commandEffect, runEEffect, preflightE_of_le hle, keyCheckEffect_of_badKey hk]
  rfl

/-- RUN.D with a key of another length aborts, and reports a partial block as well. -/
theorem exec_runD_of_badKey {s : State} (hk : s.klen.toNat ≠ keyBytes s.ks) : exec .runD s =
    .next (State.abort { s with kvalid := false } ((if s.klen.toNat < keyBytes s.ks then 3 else 1) |||
      if s.ilen % 16 = 0 then 0 else 4)) := by
  have hpre : preflightD s = .error { s with kvalid := false } (s.keyCheck ||| s.lengthCheck) := by
    simp only [preflightD]
    rw [keyCheck_eq, if_neg hk, lengthCheck_eq, if_neg (by split <;> split <;> decide), if_neg (by split <;> decide)]
  rw [exec_eq, commandEffect, runDEffect, hpre, keyCheck_eq, if_neg hk, lengthCheck_eq]
  rfl

/-- RUN.D with a partial block and a key of the required length aborts and keeps KVALID. -/
theorem exec_runD_of_partial {s : State} (hk : s.klen.toNat = keyBytes s.ks) (h : s.ilen % 16 ≠ 0) :
    exec .runD s = .next (s.abort 4) := by
  have hpre : preflightD s = .error s 4 := by
    simp only [preflightD]
    rw [keyCheck_eq, if_pos hk, lengthCheck_eq, if_neg h]
    rfl
  rw [exec_eq, commandEffect, runDEffect, hpre]
  rfl

/-- The pre-flight of RUN.D passes whole blocks under a key of the required length. -/
theorem preflightD_of_wholeBlocks {s : State} (hk : s.klen.toNat = keyBytes s.ks) (h : s.ilen % 16 = 0) :
    preflightD s = .ok s := by
  simp only [preflightD]
  rw [keyCheck_eq, if_pos hk, lengthCheck_eq, if_pos h]
  rfl

/-! ## The block loop (R161, R162) -/

/-- What `encryptBlock` and `decryptBlock` are: a function of a block, a schedule file and a round count. -/
abbrev BlockCipher := Block → Vector Word 60 → Nat → Block

/-- Command `i` completes under a valid schedule and replaces S by `F` of it and the schedule, and nothing else. -/
def Ciphers (i : Instr) (F : BlockCipher) : Prop :=
  ∀ s : State, s.kvalid = true → commandEffect i s = .ok { s with S := F s.S s.w s.nr.toNat }

theorem ciphers_ciphE : Ciphers .ciphE encryptBlock := fun _ hk => ciphEEffect_of_key hk

theorem ciphers_ciphD : Ciphers .ciphD decryptBlock := fun _ hk => ciphDEffect_of_key hk

/-- Block `b` of the input under the cipher `F` and the schedule. -/
def State.cipheredBlock (F : BlockCipher) (b : Nat) (s : State) : Block :=
  F (s.bufferBlock .ibuf b) s.w s.nr.toNat

/-- What one pass of the block loop leaves: BIDX, and in S and in OBUF the ciphered block. -/
def State.cipherBlock (F : BlockCipher) (b : Nat) (s : State) : State :=
  State.memWrite { s.setBidx b with S := s.cipheredBlock F b } .obuf (16 * b) (blockBytes (s.cipheredBlock F b))

/-- What the block loop leaves over blocks `b, b+1, ..., b+n-1`. -/
def State.cipherBlocks (F : BlockCipher) : (n b : Nat) → State → State
  | 0, _, s => s
  | n + 1, b, s => (s.cipherBlock F b).cipherBlocks F n (b + 1)

theorem ldsEffect_of_le {s : State} (h : 16 * s.bidx.toNat + 16 ≤ s.ilen) :
    ldsEffect s = .ok { s with S := s.bufferBlock .ibuf s.bidx.toNat } :=
  if_neg (Nat.not_lt.2 h)

theorem stsEffect_of_le {s : State} (h : 16 * s.bidx.toNat + 16 ≤ s.params.bufcap) :
    stsEffect s = .ok (s.memWrite .obuf (16 * s.bidx.toNat) (blockBytes s.S)) :=
  if_neg (Nat.not_lt.2 h)

/-- BUFCAP is below 2^32 (R18). -/
theorem bufcap_lt_of_paramsOk {s : State} (h : s.paramsOk = true) : s.params.bufcap < 2 ^ 32 := by
  simp only [State.paramsOk, Params.admissible, Bool.and_eq_true, decide_eq_true_eq] at h
  exact h.2

/-- A block number inside a buffer fits BIDX (R19). -/
theorem setBidx_toNat {s : State} (hp : s.paramsOk = true) {b : Nat} (h : 16 * b + 16 ≤ s.params.bufcap) :
    (s.setBidx b).bidx.toNat = b := by
  have hcap := bufcap_lt_of_paramsOk hp
  rw [setBidx_bidx, BitVec.toNat_ofNat, Nat.mod_eq_of_lt (by omega)]

section Loop

variable {F : BlockCipher}

/-- The loop writes S, BIDX and OBUF only. -/
theorem cipherBlocks_frame (n b : Nat) (s : State) : s.cipherBlocks F n b =
    { s with S := (s.cipherBlocks F n b).S, bidx := (s.cipherBlocks F n b).bidx,
             obuf := (s.cipherBlocks F n b).obuf } := by
  induction n generalizing b s with
  | zero => rfl
  | succ n ih =>
    rw [State.cipherBlocks, ih]
    rfl

theorem cipherBlocks_sameOutsideWork (n b : Nat) (s : State) : SameOutsideWork s (s.cipherBlocks F n b) := by
  rw [cipherBlocks_frame]
  rfl

/-- A pass does not change what the cipher makes of a block. -/
theorem cipheredBlock_cipherBlock (i b : Nat) (s : State) :
    (s.cipherBlock F b).cipheredBlock F i = s.cipheredBlock F i := rfl

/-- The block loop over blocks inside the input does its passes one after another (R161, R162). -/
theorem runBlocks_eq {i : Instr} (hc : Ciphers i F) {n b : Nat} {s : State} (hp : s.paramsOk = true)
    (hk : s.kvalid = true) (hb : 16 * (b + n) ≤ s.ilen) (hlen : s.ilen ≤ s.params.bufcap) :
    runBlocks (commandEffect i) n b s = .ok (s.cipherBlocks F n b) := by
  induction n generalizing b s with
  | zero => rfl
  | succ n ih =>
    have hbidx : (s.setBidx b).bidx.toNat = b := setBidx_toNat hp (by omega)
    have hlds : ldsEffect (s.setBidx b) = .ok { s.setBidx b with S := s.bufferBlock .ibuf b } := by
      rw [ldsEffect_of_le (by rw [hbidx, setBidx_ilen]; omega), hbidx]
      rfl
    have hcipher : commandEffect i { s.setBidx b with S := s.bufferBlock .ibuf b } =
        .ok { s.setBidx b with S := s.cipheredBlock F b } := hc _ hk
    have hsts : stsEffect { s.setBidx b with S := s.cipheredBlock F b } = .ok (s.cipherBlock F b) := by
      rw [stsEffect_of_le (by simp only [hbidx, setBidx_params]; omega), hbidx]
      rfl
    rw [runBlocks, hlds, andThen_ok, hcipher, andThen_ok, hsts, andThen_ok]
    exact ih hp hk (by rw [← Nat.add_assoc, Nat.add_right_comm] at hb; exact hb) hlen

/-! ### What it leaves in OBUF and S -/

/-- A block is a matter of its sixteen bytes. -/
theorem blockOfBytes_congr {f g : Nat → Byte} (h : ∀ k, k < 16 → f k = g k) : blockOfBytes f = blockOfBytes g :=
  block_ext fun r c => by rw [blockByte_blockOfBytes, blockByte_blockOfBytes, h _ (by omega)]

/-- A block holds its sixteen bytes. -/
theorem eq_of_blockOfBytes_eq {f g : Nat → Byte} (h : blockOfBytes f = blockOfBytes g) {k : Nat} (hk : k < 16) :
    f k = g k := by
  have hbyte := congrArg (fun T => blockByte T ⟨k % 4, by omega⟩ ⟨k / 4, by omega⟩) h
  simpa only [blockByte_blockOfBytes, Nat.mod_add_div] using hbyte

theorem readBuffer_cipherBlock_other {b x : Nat} (s : State) (h : x < 16 * b ∨ 16 * b + 16 ≤ x) :
    (s.cipherBlock F b).readBuffer .obuf x = s.readBuffer .obuf x :=
  readBuffer_memWrite_block_other _ .obuf _ h

theorem bufferBlock_cipherBlock (b : Nat) (s : State) :
    (s.cipherBlock F b).bufferBlock .obuf b = s.cipheredBlock F b :=
  block_ext fun r c => (blockByte_blockOfBytes _ r c).trans (readBuffer_memWrite_block _ .obuf _ _ r c)

/-- The loop leaves every byte of OBUF outside its blocks. -/
theorem readBuffer_cipherBlocks_other {n b x : Nat} (s : State) (h : x < 16 * b ∨ 16 * (b + n) ≤ x) :
    (s.cipherBlocks F n b).readBuffer .obuf x = s.readBuffer .obuf x := by
  induction n generalizing b s with
  | zero => rfl
  | succ n ih => rw [State.cipherBlocks, ih _ (by omega), readBuffer_cipherBlock_other _ (by omega)]

/-- Every output block is the ciphered input block of the same number alone (R169). -/
theorem bufferBlock_cipherBlocks {n b i : Nat} (s : State) (hge : b ≤ i) (hlt : i < b + n) :
    (s.cipherBlocks F n b).bufferBlock .obuf i = s.cipheredBlock F i := by
  induction n generalizing b s with
  | zero => omega
  | succ n ih =>
    rw [State.cipherBlocks]
    obtain rfl | hgt := Nat.eq_or_lt_of_le hge
    · rw [← bufferBlock_cipherBlock b s]
      exact blockOfBytes_congr fun k hk => readBuffer_cipherBlocks_other _ (by omega)
    · rw [ih _ hgt (by omega), cipheredBlock_cipherBlock]

/-- S is left at the last output block (R166, log entry 13). -/
theorem cipherBlocks_S {n : Nat} (hn : 0 < n) (b : Nat) (s : State) :
    (s.cipherBlocks F n b).S = (s.cipherBlocks F n b).bufferBlock .obuf (b + n - 1) := by
  induction n generalizing b s with
  | zero => omega
  | succ n ih =>
    rw [State.cipherBlocks]
    obtain rfl | hpos := Nat.eq_zero_or_pos n
    · exact (bufferBlock_cipherBlock b s).symm
    · rw [ih hpos, Nat.add_right_comm, Nat.add_assoc]

end Loop

/-! ## RUN.E (R161) -/

/-- The state with its input padded as FRM.E pads it (R141). -/
def State.framed (s : State) : State := s.padInput (padCount s.params.padAligned s.ilen)

theorem framed_eq (s : State) : s.framed = s.padInput (padOf s.params.padAligned s.ilen) :=
  congrArg s.padInput (padCount_eq_padOf _ _)

/-- The work of FRM.E with a padded input that fits. -/
theorem frmEEffect_of_le {s : State} (h : s.paddedLength ≤ s.params.bufcap) : frmEEffect s = .ok s.framed := by
  rw [frmEEffect, paddingFits_eq, decide_eq_true h, if_neg (by decide)]
  rfl

/-- What RUN.E leaves when its checks pass, before `done()`. -/
def State.encrypted (s : State) : State :=
  (s.expandKey.framed.cipherBlocks encryptBlock (s.paddedLength / 16) 0).finishBlocks (s.paddedLength / 16)

/-- RUN.E completes when its checks pass. -/
theorem exec_runE_of_le {s : State} (hp : s.paramsOk = true) (hk : s.klen.toNat = keyBytes s.ks)
    (hle : s.paddedLength ≤ s.params.bufcap) : exec .runE s = .next (s.encrypted.finish 0) := by
  have hblocks := runBlocks_eq ciphers_ciphE (n := s.paddedLength / 16) (b := 0) (s := s.expandKey.framed) hp rfl
    (by rw [Nat.zero_add]; exact Nat.mul_div_le _ _) hle
  rw [exec_eq, commandEffect, runEEffect, preflightE_of_le hle, keyCheckEffect_of_key hk, andThen_ok,
    frmEEffect_of_le (s := s.expandKey) hle, andThen_ok]
  exact congrArg (fun e : Effect => Host.Outcome.next (e.andThen _).settle) hblocks

/-- RUN.E writes the schedule, the input, the output, S and BIDX only. -/
theorem encrypted_frame (s : State) : s.encrypted =
    { s.expandKey with
      S := s.encrypted.S, ilen := s.paddedLength, olen := s.paddedLength,
      bidx := BitVec.ofNat 32 (s.paddedLength / 16), ibuf := s.framed.ibuf, obuf := s.encrypted.obuf } := by
  rw [State.encrypted, cipherBlocks_frame]
  rfl

/-- The input RUN.E leaves is the padded one. -/
theorem bufferBlock_encrypted_ibuf (s : State) (i : Nat) :
    s.encrypted.bufferBlock .ibuf i = s.framed.bufferBlock .ibuf i := by
  rw [encrypted_frame]
  rfl

/-- Every output block of RUN.E is the block of the padded input, encrypted under the expanded key (R169). -/
theorem bufferBlock_encrypted (s : State) {i : Nat} (hi : i < s.paddedLength / 16) :
    s.encrypted.bufferBlock .obuf i =
      encryptBlock (s.framed.bufferBlock .ibuf i) s.expandKey.w (roundsOf s.ks).toNat :=
  bufferBlock_cipherBlocks _ (Nat.zero_le i) (by rwa [Nat.zero_add])

theorem readBuffer_encrypted_other (s : State) {x : Nat} (h : s.paddedLength ≤ x) :
    s.encrypted.readBuffer .obuf x = s.readBuffer .obuf x :=
  readBuffer_cipherBlocks_other _ (.inr (by rw [Nat.zero_add]; exact Nat.le_trans (Nat.mul_div_le _ _) h))

theorem encrypted_S {s : State} (h : 0 < s.paddedLength / 16) :
    s.encrypted.S = s.encrypted.bufferBlock .obuf (s.paddedLength / 16 - 1) :=
  (cipherBlocks_S h 0 s.expandKey.framed).trans (by rw [Nat.zero_add]; rfl)

theorem encrypted_S_of_empty {s : State} (h : s.paddedLength / 16 = 0) : s.encrypted.S = s.S := by
  rw [State.encrypted, h]
  rfl

/-! ## RUN.D (R162) -/

/-- What RUN.D leaves when its checks pass, before it strips the padding. -/
def State.decrypted (s : State) : State :=
  (s.expandKey.cipherBlocks decryptBlock (s.ilen / 16) 0).finishBlocks (s.ilen / 16)

/-- RUN.D, when its checks pass, ends as FRM.D does on the decrypted blocks. -/
theorem exec_runD_of_wholeBlocks {s : State} (hp : s.paramsOk = true) (hk : s.klen.toNat = keyBytes s.ks)
    (hle : s.ilen ≤ s.params.bufcap) (h : s.ilen % 16 = 0) : exec .runD s = exec .frmD s.decrypted := by
  have hblocks := runBlocks_eq ciphers_ciphD (n := s.ilen / 16) (b := 0) (s := s.expandKey) hp rfl
    (by rw [Nat.zero_add]; exact Nat.mul_div_le _ _) hle
  rw [exec_eq, commandEffect, runDEffect, preflightD_of_wholeBlocks hk h, andThen_ok]
  exact congrArg (fun e : Effect => Host.Outcome.next (e.andThen _).settle) hblocks

/-- Up to the padding RUN.D writes the schedule, the output, S and BIDX only. -/
theorem decrypted_frame (s : State) : s.decrypted =
    { s.expandKey with
      S := s.decrypted.S, olen := s.ilen, bidx := BitVec.ofNat 32 (s.ilen / 16), obuf := s.decrypted.obuf } := by
  rw [State.decrypted, cipherBlocks_frame]
  rfl

theorem decrypted_olen (s : State) : s.decrypted.olen = s.ilen := congrArg State.olen (decrypted_frame s)

theorem bufferBlock_decrypted_ibuf (s : State) (i : Nat) :
    s.decrypted.bufferBlock .ibuf i = s.bufferBlock .ibuf i := by
  rw [decrypted_frame]
  rfl

/-- Every output block of RUN.D is the input block, decrypted under the expanded key. -/
theorem bufferBlock_decrypted (s : State) {i : Nat} (hi : i < s.ilen / 16) : s.decrypted.bufferBlock .obuf i =
    decryptBlock (s.bufferBlock .ibuf i) s.expandKey.w (roundsOf s.ks).toNat :=
  bufferBlock_cipherBlocks _ (Nat.zero_le i) (by rwa [Nat.zero_add])

theorem readBuffer_decrypted_other (s : State) {x : Nat} (h : s.ilen ≤ x) :
    s.decrypted.readBuffer .obuf x = s.readBuffer .obuf x :=
  readBuffer_cipherBlocks_other _ (.inr (by rw [Nat.zero_add]; exact Nat.le_trans (Nat.mul_div_le _ _) h))

theorem decrypted_S {s : State} (h : 0 < s.ilen / 16) :
    s.decrypted.S = s.decrypted.bufferBlock .obuf (s.ilen / 16 - 1) :=
  (cipherBlocks_S h 0 s.expandKey).trans (by rw [Nat.zero_add]; rfl)

theorem decrypted_S_of_empty {s : State} (h : s.ilen / 16 = 0) : s.decrypted.S = s.S := by
  rw [State.decrypted, h]
  rfl

/-- FRM.D on whole blocks writes OLEN and ERR only, as the padding decides (R144). -/
theorem exec_frmD_eq {s : State} (h : s.olen % 16 = 0) : ∃ olen err,
    exec .frmD s = .next { s with olen := olen, err := err, done := true, cur := none, mi := 0, plan := [] } ∧
    (∀ p, PaddedBy (s.readBuffer .obuf) s.olen p → olen = s.olen - p ∧ err = 0) ∧
    ((∀ p, ¬ PaddedBy (s.readBuffer .obuf) s.olen p) → olen = s.olen ∧ err = 8) := by
  by_cases hex : ∃ p, PaddedBy (s.readBuffer .obuf) s.olen p
  · obtain ⟨p, hp⟩ := hex
    refine ⟨s.olen - p, 0, exec_frmD_of_padded h hp, fun q hq => ⟨?_, rfl⟩, fun hno => absurd hp (hno p)⟩
    rw [← hq.toNat_last, hp.toNat_last]
  · have hno := not_exists.1 hex
    exact ⟨_, _, exec_frmD_of_unpadded h hno, fun q hq => absurd hq (hno q), fun _ => ⟨rfl, rfl⟩⟩

/-! ## Bytes and blocks (R100) -/

/-- Buffers that agree block by block agree byte by byte. -/
theorem readBuffer_eq_of_bufferBlock_eq {s t : State} {b b' : Buffer} {n : Nat}
    (h : ∀ i, i < n → s.bufferBlock b i = t.bufferBlock b' i) {a : Nat} (ha : a < 16 * n) :
    s.readBuffer b a = t.readBuffer b' a := by
  have hbyte := eq_of_blockOfBytes_eq (h (a / 16) (by omega)) (Nat.mod_lt a (by decide))
  rwa [Nat.div_add_mod] at hbyte

/-! ## The same key (R89) -/

section SameKey

variable {s t : State} (hks : s.ks = t.ks) (hkey : ∀ j, j < keyBytes s.ks → s.keyByte j = t.keyByte j)
include hks hkey

/-- The same key bytes under the same key size give the same round keys. -/
theorem addRoundKey_expandKey_congr (r : Nat) (hr : r ≤ (roundsOf s.ks).toNat) :
    addRoundKey s.expandKey.w r = addRoundKey t.expandKey.w r :=
  addRoundKey_eq_of_words (fun j hj => expandKey_w_congr hks hkey j (by unfold scheduleWords; omega)) r hr

/-- RUN.E takes the same sixteen bytes of padded input to the same sixteen bytes of output, whatever stands around them and
wherever they stand (R169). -/
theorem bufferBlock_encrypted_congr {i j : Nat} (hi : i < s.paddedLength / 16) (hj : j < t.paddedLength / 16)
    (h : ∀ k, k < 16 → s.framed.readBuffer .ibuf (16 * i + k) = t.framed.readBuffer .ibuf (16 * j + k)) :
    s.encrypted.bufferBlock .obuf i = t.encrypted.bufferBlock .obuf j := by
  have hin : s.framed.bufferBlock .ibuf i = t.framed.bufferBlock .ibuf j := blockOfBytes_congr h
  rw [bufferBlock_encrypted s hi, bufferBlock_encrypted t hj, hin, ← hks]
  exact encryptBlock_congr (addRoundKey_expandKey_congr hks hkey) _

/-- So a string of whole blocks gives the same output wherever it stands in two padded inputs. -/
theorem readBuffer_encrypted_congr {x y len : Nat} (haligned : x % 16 = 0 ∧ y % 16 = 0 ∧ len % 16 = 0)
    (hx : x + len ≤ s.paddedLength) (hy : y + len ≤ t.paddedLength)
    (h : ∀ k, k < len → s.framed.readBuffer .ibuf (x + k) = t.framed.readBuffer .ibuf (y + k))
    {k : Nat} (hk : k < len) : s.encrypted.readBuffer .obuf (x + k) = t.encrypted.readBuffer .obuf (y + k) := by
  have hblock : s.encrypted.bufferBlock .obuf ((x + k) / 16) = t.encrypted.bufferBlock .obuf ((y + k) / 16) := by
    refine bufferBlock_encrypted_congr hks hkey (by omega) (by omega) fun j hj => ?_
    have hxk : 16 * ((x + k) / 16) + j = x + (16 * (k / 16) + j) := by omega
    have hyk : 16 * ((y + k) / 16) + j = y + (16 * (k / 16) + j) := by omega
    rw [hxk, hyk]
    exact h _ (by omega)
  have hmod : (x + k) % 16 = (y + k) % 16 := by omega
  have hbyte := eq_of_blockOfBytes_eq hblock (Nat.mod_lt (x + k) (by decide))
  rwa [Nat.div_add_mod, hmod, Nat.div_add_mod] at hbyte

/-- Decrypting the output of RUN.E under the same key gives back the padded input (R168). -/
theorem readBuffer_decrypted_of_copy (hlen : t.ilen = s.paddedLength)
    (hcopy : ∀ a, a < s.paddedLength → t.readBuffer .ibuf a = s.encrypted.readBuffer .obuf a)
    {a : Nat} (ha : a < 16 * (s.paddedLength / 16)) :
    t.decrypted.readBuffer .obuf a = s.framed.readBuffer .ibuf a := by
  refine readBuffer_eq_of_bufferBlock_eq (fun i hi => ?_) ha
  have hin : t.bufferBlock .ibuf i = s.encrypted.bufferBlock .obuf i :=
    blockOfBytes_congr fun k hk => hcopy _ (by omega)
  rw [bufferBlock_decrypted t (by rwa [hlen]), hin, bufferBlock_encrypted s hi, ← hks,
    ← decryptBlock_congr (addRoundKey_expandKey_congr hks hkey), decryptBlock_encryptBlock]

end SameKey

/-- RUN.D on a copy of the output of RUN.E, under the same key registers, does what FRM.D does on the padded input. -/
theorem exec_runD_of_copy {s u : State} (hp : s.paramsOk = true) (hlt : s.ilen < s.params.bufcap)
    (hk : s.klen.toNat = keyBytes s.ks) (hparams : u.params = s.params) (hklen : u.klen = s.klen) (hks : u.ks = s.ks)
    (hkey : u.key = s.key) (hilen : u.ilen = s.paddedLength)
    (hcopy : ∀ a, a < s.paddedLength → u.readBuffer .ibuf a = s.encrypted.readBuffer .obuf a) :
    ∃ v, exec .runD u = .next v ∧ (s.params.padAligned = .full → v.olen = s.ilen ∧ v.err = 0) ∧
      ∀ a, a < v.olen → v.readBuffer .obuf a = s.readBuffer .ibuf a := by
  have hle := add_padOf_le (p := s.params.padAligned) (bufcap_mod_of_paramsOk hp) hlt
  have hmod := add_padOf_mod s.params.padAligned s.ilen
  have hframed := exec_frmE_of_le hle
  rw [← framed_eq] at hframed
  rw [← paddedLength_eq] at hle hmod
  have hkey' : ∀ j, j < keyBytes s.ks → s.keyByte j = u.keyByte j := fun j _ =>
    congrArg (fun key => key.getD j 0#8) hkey.symm
  obtain ⟨v, hv, hbytes, hstrip, -, -⟩ := framerRoundTrip s _ u.decrypted hp hlt hframed
    ((decrypted_olen u).trans hilen) fun a ha => readBuffer_decrypted_of_copy hks.symm hkey' hilen hcopy
      (Nat.lt_of_lt_of_eq ha (Nat.mul_div_cancel' (Nat.dvd_of_mod_eq_zero hmod)).symm)
  have hrun := exec_runD_of_wholeBlocks (s := u) ((congrArg Params.admissible hparams).trans hp)
    (by rw [hklen, hks, hk]) (by rw [hilen, hparams]; exact hle) (by rw [hilen, hmod])
  exact ⟨v, hrun.trans hv, hstrip, hbytes⟩

/-! ## Whole blocks under PAD_ALIGNED = FULL (R143) -/

theorem paddedLength_of_full {s : State} (hfull : s.params.padAligned = .full) (h : s.ilen % 16 = 0) :
    s.paddedLength = s.ilen + 16 := by
  rw [paddedLength_eq, hfull, padOf_full, h]

theorem readBuffer_framed_of_lt {s : State} {a : Nat} (h : a < s.ilen) :
    s.framed.readBuffer .ibuf a = s.readBuffer .ibuf a :=
  readBuffer_padInput_of_lt _ h

/-- The block FRM.E appends to whole blocks. -/
theorem readBuffer_framed_pad {s : State} (hfull : s.params.padAligned = .full) (h : s.ilen % 16 = 0) {k : Nat}
    (hk : k < 16) : s.framed.readBuffer .ibuf (s.ilen + k) = 16 := by
  rw [framed_eq, hfull, padOf_full, h, readBuffer_padInput, if_pos (by omega)]
  rfl

end Sys2Proof.Machine

open Sys2Proof Sys2Proof.Machine

/-- Settles O50: the frame of what RUN.E leaves, and its output block by block. -/
theorem runEEncryptsTheStream : Obligations.RunEEncryptsTheStream := by
  refine ⟨by decide, fun s len n hp hk hlen hle hn => ?_⟩
  have hframed := exec_frmE_of_le (hlen ▸ hle)
  rw [← framed_eq] at hframed
  rw [← paddedLength_eq] at hlen
  subst hlen hn
  refine ⟨_, _, _, exec_runE_of_le hp hk hle, exec_kexp_of_key hk, hframed, ?_, fun i hi => ?_,
    fun x hx => readBuffer_encrypted_other s hx, encrypted_S, encrypted_S_of_empty⟩
  · rw [encrypted_frame]
    rfl
  · have hblock : (s.encrypted.finish 0).bufferBlock .obuf i =
        encryptBlock ((s.encrypted.finish 0).bufferBlock .ibuf i) s.expandKey.w (roundsOf s.ks).toNat :=
      (bufferBlock_encrypted s hi).trans (congrArg (encryptBlock · _ _) (bufferBlock_encrypted_ibuf s i).symm)
    rw [hblock]
    exact exec_ciphE_of_key rfl

/-- Settles O51: the decrypted blocks, and what FRM.D makes of them. -/
theorem runDDecryptsTheStream : Obligations.RunDDecryptsTheStream := by
  refine ⟨by decide, fun s n hp hle hk hlen => ?_⟩
  obtain rfl : n = s.ilen / 16 := by omega
  have hwhole : s.ilen % 16 = 0 := by omega
  obtain ⟨olen, err, hfrm, hpad, hno⟩ := exec_frmD_eq (s := s.decrypted) (by rw [decrypted_olen, hwhole])
  rw [decrypted_olen] at hpad hno
  refine ⟨_, _, (exec_runD_of_wholeBlocks hp hk hle hwhole).trans hfrm, exec_kexp_of_key hk, ?_, fun i hi => ?_,
    fun x hx => readBuffer_decrypted_other s hx, decrypted_S, decrypted_S_of_empty, hpad, hno⟩
  · rw [decrypted_frame]
    rfl
  · have hblock : s.decrypted.bufferBlock .obuf i =
        decryptBlock (s.decrypted.bufferBlock .ibuf i) s.expandKey.w (roundsOf s.ks).toNat :=
      (bufferBlock_decrypted s hi).trans (congrArg (decryptBlock · _ _) (bufferBlock_decrypted_ibuf s i).symm)
    refine (exec_ciphD_of_key rfl).trans ?_
    exact congrArg (fun T => Host.Outcome.next ((s.expandKey.finish 0).doneWith T)) hblock.symm

/-- Settles O52, check by check. -/
theorem runPreflight : Obligations.RunPreflight := by
  refine ⟨?_, fun s => ⟨fun hk h => ?_, fun hk h => ?_, exec_runD_of_partial⟩⟩
  · intro s len hlen
    rw [← paddedLength_eq] at hlen
    subst hlen
    exact ⟨exec_runE_of_lt, exec_runE_of_badKey⟩
  · rw [exec_runD_of_badKey hk, if_pos h]
    split <;> rfl
  · rw [exec_runD_of_badKey hk, if_neg h]
    split <;> rfl

/-- Settles O54: RUN.D keeps the key registers RUN.E kept, and gives FRM.D the padded input back. -/
theorem streamRoundTrip : Obligations.StreamRoundTrip := by
  intro s t m hp hfull hlt hk ht hcopy
  have hle : s.paddedLength ≤ s.params.bufcap := by
    rw [paddedLength_eq]
    exact add_padOf_le (bufcap_mod_of_paramsOk hp) hlt
  obtain ⟨hkey, hklen, hks, hparams, -, -, -⟩ := noCommandWritesKeyOrControl .runE s t ht
  cases (exec_runE_of_le hp hk hle).symm.trans ht
  have holen : (s.encrypted.finish 0).olen = s.paddedLength := by rw [finish_olen, encrypted_frame]
  rw [holen] at hcopy
  obtain ⟨v, hv, hstrip, hbytes⟩ := exec_runD_of_copy
    (u := { s.encrypted.finish 0 with ibuf := m, ilen := (s.encrypted.finish 0).olen }) hp hlt hk hparams
    hklen hks hkey holen hcopy
  obtain ⟨hvlen, hverr⟩ := hstrip hfull
  exact ⟨v, hv, hvlen, hverr, fun a ha => hbytes a (hvlen ▸ ha)⟩

/-- Settles O55: both inputs and the padding block stand in the padded concatenation as they stand in the padded inputs. -/
theorem runEOfAConcatenation : Obligations.RunEOfAConcatenation := by
  rintro A B AB tA tB tAB ⟨hpA, hpB, hp⟩ ⟨hfullA, hfullB, hfull⟩ ⟨hksA, hksB, hkey⟩ ⟨hkA, hkB, hk⟩ ⟨hmodA, hmodB, hilen⟩
    ⟨hltA, hltB, hlt⟩ hinA hinB htA htB ht
  have hmod : AB.ilen % 16 = 0 := by omega
  have hlenA := paddedLength_of_full hfullA hmodA
  have hlenB := paddedLength_of_full hfullB hmodB
  have hlen := paddedLength_of_full hfull hmod
  have hcapA := bufcap_mod_of_paramsOk hpA
  have hcapB := bufcap_mod_of_paramsOk hpB
  have hcap := bufcap_mod_of_paramsOk hp
  cases (exec_runE_of_le hpA hkA (by omega)).symm.trans htA
  cases (exec_runE_of_le hpB hkB (by omega)).symm.trans htB
  cases (exec_runE_of_le hp hk (by omega)).symm.trans ht
  have hkeyA : ∀ j, j < keyBytes AB.ks → AB.keyByte j = A.keyByte j := fun j hj => (hkey j hj).1.symm
  have hkeyB : ∀ j, j < keyBytes AB.ks → AB.keyByte j = B.keyByte j := fun j hj => (hkey j hj).2.symm
  have hpad : ∀ {s : State} {k}, s.params.padAligned = .full → s.ilen % 16 = 0 → k < 16 →
      AB.framed.readBuffer .ibuf (AB.ilen + k) = s.framed.readBuffer .ibuf (s.ilen + k) := fun hs hm hlt16 => by
    rw [readBuffer_framed_pad hfull hmod hlt16, readBuffer_framed_pad hs hm hlt16]
  refine ⟨?_, fun k hlt' => ?_, fun k hlt' => ?_, fun k hlt' => ⟨?_, ?_⟩⟩
  · rw [finish_olen, encrypted_frame, hlen, hilen]
  · have h := readBuffer_encrypted_congr hksA hkeyA (x := 0) (y := 0) ⟨rfl, rfl, hmodA⟩ (by omega) (by omega)
      (fun j hj => by
        rw [Nat.zero_add, readBuffer_framed_of_lt (by omega), readBuffer_framed_of_lt hj, hinA j hj]) hlt'
    rwa [Nat.zero_add] at h
  · have h := readBuffer_encrypted_congr hksB hkeyB (x := A.ilen) (y := 0) ⟨hmodA, rfl, hmodB⟩ (by omega) (by omega)
      (fun j hj => by
        rw [Nat.zero_add, readBuffer_framed_of_lt (by omega), readBuffer_framed_of_lt hj, hinB j hj]) hlt'
    rwa [Nat.zero_add] at h
  · rw [← hilen]
    exact readBuffer_encrypted_congr hksA hkeyA ⟨hmod, hmodA, rfl⟩ (by omega) (by omega)
      (fun j hj => hpad hfullA hmodA hj) hlt'
  · rw [← hilen]
    exact readBuffer_encrypted_congr hksB hkeyB ⟨hmod, hmodB, rfl⟩ (by omega) (by omega)
      (fun j hj => hpad hfullB hmodB hj) hlt'
end

section
/-! PROOFS. The host-driven sequence a stream command stands for (R165) and the stream machine (R167), and the statements O53 and
O56. -/

namespace Sys2Proof.Machine

/-! ## The host-driven sequence (R165) -/

/-- `s` after a command that has completed, when the host goes on with `rest`. -/
def State.doneBefore (s : State) (rest : List HostOp) : State := { s.finish 0 with host := rest }

/-- The acts `ops` of the host lead from `s` to `t`, whatever the host does after them. -/
def Leads (ops : List HostOp) (s t : State) : Prop :=
  ∀ rest, Host.Core.run Sys2Proof.core ops.length (s.doneBefore (ops ++ rest)) = .next (t.doneBefore rest)

theorem Leads.nil (s : State) : Leads [] s s := fun _ => rfl

theorem Leads.append {p q : List HostOp} {s t u : State} (hp : Leads p s t) (hq : Leads q t u) :
    Leads (p ++ q) s u := fun rest => by
  rw [List.length_append, List.append_assoc, run_add_of_run (hp (q ++ rest)), hq rest]

theorem Leads.of_step {op : HostOp} {s t : State}
    (h : ∀ rest, step (s.doneBefore (op :: rest)) = .next (t.doneBefore rest)) : Leads [op] s t :=
  fun rest => run_succ_of_step (h rest) 0

theorem ready_doneBefore {s : State} (hf : s.fatal = false) (rest : List HostOp) :
    (s.doneBefore rest).ready = true := ready_iff.2 ⟨rfl, hf⟩

/-- A command line of a ready engine runs the command (R46). -/
theorem step_commandLine {s : State} {i : Instr} {rest : List HostOp} (hr : s.ready = true)
    (hi : i.wellFormed = true) (hh : s.host = (Line.command i).ops ++ rest) :
    step s = exec i { s with host := rest } := by
  rw [step_cons hh, hostAct, command_of_legal (by exact hr) (decode_encode hi)]
  rfl

theorem leads_command {i : Instr} {s t : State} (hi : i.wellFormed = true) (hf : s.fatal = false)
    (h : ∀ rest, exec i (s.doneBefore rest) = .next (t.doneBefore rest)) : Leads (Line.command i).ops s t :=
  .of_step fun rest => (step_commandLine (ready_doneBefore hf _) hi rfl).trans (h rest)

/-- A line that writes BIDX. -/
theorem leads_wr_bidx {s : State} (hf : s.fatal = false) (b : Nat) :
    Leads (Line.wr .bidx (BitVec.ofNat 32 b)).ops s (s.setBidx b) :=
  .of_step fun _ => step_write32_ready (ready_doneBefore hf _) rfl (by decide) (by simp [State.windowSize, RegName.offset])

/-- A line that writes a length inside the buffer to OLEN. -/
theorem leads_wr_olen {s : State} (hf : s.fatal = false) {len : Nat} (hlen : len ≤ s.params.bufcap)
    (hcap : s.params.bufcap < 2 ^ 32) : Leads (Line.wr .olen (BitVec.ofNat 32 len)).ops s { s with olen := len } := by
  have hval : (BitVec.ofNat 32 len).toNat = len := by rw [BitVec.toNat_ofNat, Nat.mod_eq_of_lt (by omega)]
  have hreg : ∀ (u : State) v, u.writeWordAt .regs 0x01C v = u.writeLength v fun u n => { u with olen := n } :=
    fun _ _ => rfl
  refine .of_step fun rest => (step_write32_ready (ready_doneBefore hf _) rfl (by decide)
    (by simp [State.windowSize, RegName.offset])).trans (congrArg _ ?_)
  rw [RegName.offset, hreg, writeLength_of_le (by rw [hval]; exact hlen), hval]
  rfl

theorem leads_lds {s : State} {b : Nat} (hf : s.fatal = false) (hb : s.bidx.toNat = b) (h : 16 * b + 16 ≤ s.ilen) :
    Leads (Line.command .lds).ops s { s with S := s.bufferBlock .ibuf b } := by
  subst hb
  exact leads_command rfl hf fun _ => exec_lds_of_le (by exact h)

/-- A write to OBUF and the end of a command, with the end of the command before it forgotten. -/
theorem finish_memWrite_doneBefore (s : State) (rest : List HostOp) (a : Nat) (vs : List Byte) :
    ((s.doneBefore rest).memWrite .obuf a vs).finish 0 = (s.memWrite .obuf a vs).doneBefore rest := rfl

theorem leads_sts {s : State} {b : Nat} (hf : s.fatal = false) (hb : s.bidx.toNat = b)
    (h : 16 * b + 16 ≤ s.params.bufcap) :
    Leads (Line.command .sts).ops s (s.memWrite .obuf (16 * b) (blockBytes s.S)) := by
  subst hb
  refine leads_command rfl hf fun rest => ?_
  rw [← finish_memWrite_doneBefore]
  exact exec_sts_of_le (s := s.doneBefore rest) h

section HostLoop

variable {F : BlockCipher} {i : Instr} (hc : Ciphers i F) (hi : i.wellFormed = true)
include hc hi

theorem leads_cipher {s : State} (hf : s.fatal = false) (hk : s.kvalid = true) :
    Leads (Line.command i).ops s { s with S := F s.S s.w s.nr.toNat } :=
  leads_command hi hf fun rest => by
    rw [exec_eq, hc (s.doneBefore rest) hk]
    rfl

/-- The four lines of a block are a pass of the block loop. -/
theorem leads_block {s : State} {b : Nat} (hf : s.fatal = false) (hp : s.paramsOk = true) (hk : s.kvalid = true)
    (hb : 16 * b + 16 ≤ s.ilen) (hlen : s.ilen ≤ s.params.bufcap) :
    Leads (programOps [.wr .bidx (BitVec.ofNat 32 b), .command .lds, .command i, .command .sts]) s
      (s.cipherBlock F b) := by
  have hbidx : (s.setBidx b).bidx.toNat = b := setBidx_toNat hp (Nat.le_trans hb hlen)
  have hload := (leads_wr_bidx hf b).append (leads_lds (by exact hf) hbidx hb)
  have hcipher := hload.append (leads_cipher hc hi (by exact hf) (by exact hk))
  exact hcipher.append (leads_sts (by exact hf) hbidx (Nat.le_trans hb hlen))

theorem leads_blockLines {n b : Nat} {s : State} (hf : s.fatal = false) (hp : s.paramsOk = true)
    (hk : s.kvalid = true) (hb : 16 * (b + n) ≤ s.ilen) (hlen : s.ilen ≤ s.params.bufcap) :
    Leads (programOps (blockLines i n b)) s (s.cipherBlocks F n b) := by
  induction n generalizing b s with
  | zero => exact .nil s
  | succ n ih =>
    exact (leads_block hc hi hf hp hk (by omega) hlen).append
      (ih (s := s.cipherBlock F b) hf hp hk (by rw [Nat.add_assoc, Nat.add_comm 1]; exact hb) hlen)

/-- The lines of the blocks and of FIN do what the block loop and FIN do. -/
theorem leads_streamLines {n : Nat} {s : State} (hf : s.fatal = false) (hp : s.paramsOk = true) (hk : s.kvalid = true)
    (hn : s.ilen = 16 * n) (hlen : s.ilen ≤ s.params.bufcap) :
    Leads (programOps (blockLines i n 0 ++ [.wr .bidx (BitVec.ofNat 32 n), .wr .olen (BitVec.ofNat 32 (16 * n))])) s
      ((s.cipherBlocks F n 0).finishBlocks n) := by
  have hblocks := leads_blockLines hc hi hf hp hk (n := n) (b := 0) (by omega) hlen
  obtain ⟨-, -, -, hparams, -, -, -⟩ := (cipherBlocks_sameOutsideWork (F := F) n 0 s).untouched
  obtain ⟨-, hfatal, -, -⟩ := (cipherBlocks_sameOutsideWork (F := F) n 0 s).flags
  rw [hf] at hfatal
  have hilen : (s.cipherBlocks F n 0).ilen = 16 * n := by rw [cipherBlocks_frame, hn]
  rw [hn, ← hparams] at hlen
  have holen := leads_wr_olen (s := (s.cipherBlocks F n 0).setBidx n) hfatal hlen
    (by rw [setBidx_params, hparams]; exact bufcap_lt_of_paramsOk hp)
  rw [programOps, List.flatMap_append, State.finishBlocks, hilen]
  exact hblocks.append ((leads_wr_bidx hfatal n).append holen)

end HostLoop

/-- A program that begins with KEXP and then leads from the expanded key to `t`. -/
theorem run_kexp_leads {s t : State} {ops : List HostOp} (rest : List HostOp) (hr : s.ready = true)
    (hk : s.klen.toNat = keyBytes s.ks) (h : Leads ops s.expandKey t) :
    Host.Core.run Sys2Proof.core (ops.length + 1) { s with host := (Line.command .kexp).ops ++ (ops ++ rest) } =
      .next (t.doneBefore rest) := by
  have hstep : step { s with host := (Line.command .kexp).ops ++ (ops ++ rest) } =
      .next (s.expandKey.doneBefore (ops ++ rest)) :=
    (step_commandLine (by exact hr) rfl rfl).trans (exec_kexp_of_key (s := { s with host := ops ++ rest }) hk)
  exact (run_succ_of_step hstep _).trans (h rest)

/-- The lines of R165 by their parts. -/
theorem programOps_runELines (n : Nat) : programOps (runELines n) =
    (Line.command .kexp).ops ++ ((Line.command .frmE).ops ++ programOps (blockLines .ciphE n 0 ++
      [.wr .bidx (BitVec.ofNat 32 n), .wr .olen (BitVec.ofNat 32 (16 * n))])) := by
  simp [programOps, runELines]

theorem programOps_runDLines (n : Nat) : programOps (runDLines n) =
    (Line.command .kexp).ops ++ (programOps (blockLines .ciphD n 0 ++
      [.wr .bidx (BitVec.ofNat 32 n), .wr .olen (BitVec.ofNat 32 (16 * n))]) ++ (Line.command .frmD).ops) := by
  simp [programOps, runDLines]

theorem doneBefore_host {s : State} (h : s.host = []) : s.doneBefore [] = s.finish 0 := by
  rw [State.doneBefore, ← h]
  rfl

/-- What FRM.D makes of whole blocks does not depend on how the command before it ended. -/
theorem exec_frmD_doneBefore {s : State} (hh : s.host = []) (h : s.olen % 16 = 0) :
    exec .frmD (s.doneBefore []) = exec .frmD s := by
  rw [doneBefore_host hh]
  by_cases hex : ∃ p, PaddedBy (s.readBuffer .obuf) s.olen p
  · obtain ⟨p, hp⟩ := hex
    rw [exec_frmD_of_padded h hp]
    exact exec_frmD_of_padded (s := s.finish 0) h hp
  · rw [exec_frmD_of_unpadded h (not_exists.1 hex)]
    exact exec_frmD_of_unpadded (s := s.finish 0) h (not_exists.1 hex)

/-- The host-driven sequence of RUN.E (R165). -/
theorem run_runELines {s : State} (hr : s.ready = true) (hh : s.host = []) (hp : s.paramsOk = true)
    (hk : s.klen.toNat = keyBytes s.ks) (hmod : s.paddedLength % 16 = 0) (hle : s.paddedLength ≤ s.params.bufcap) :
    Host.Core.run Sys2Proof.core (programOps (runELines (s.paddedLength / 16))).length
      { s with host := programOps (runELines (s.paddedLength / 16)) } = exec .runE s := by
  obtain ⟨-, hf⟩ := ready_iff.1 hr
  have hn : s.paddedLength = 16 * (s.paddedLength / 16) := by omega
  have hpad : Leads (Line.command .frmE).ops s.expandKey s.expandKey.framed :=
    leads_command rfl hf fun rest => by
      rw [exec_eq, commandEffect, frmEEffect_of_le (by exact hle)]
      rfl
  have hstream := leads_streamLines ciphers_ciphE rfl (s := s.expandKey.framed) hf hp rfl hn hle
  have hrun := run_kexp_leads [] hr hk (hpad.append hstream)
  obtain ⟨-, -, -, -, -, hhost, -⟩ := noCommandWritesKeyOrControl .runE s _ (exec_runE_of_le hp hk hle)
  rw [List.append_nil] at hrun
  rw [programOps_runELines, exec_runE_of_le hp hk hle, ← doneBefore_host (s := s.encrypted) (hhost.trans hh)]
  exact hrun

/-- The host-driven sequence of RUN.D (R165). -/
theorem run_runDLines {s : State} (hr : s.ready = true) (hh : s.host = []) (hp : s.paramsOk = true)
    (hk : s.klen.toNat = keyBytes s.ks) (hmod : s.ilen % 16 = 0) (hle : s.ilen ≤ s.params.bufcap) :
    Host.Core.run Sys2Proof.core (programOps (runDLines (s.ilen / 16))).length
      { s with host := programOps (runDLines (s.ilen / 16)) } = exec .runD s := by
  obtain ⟨-, hf⟩ := ready_iff.1 hr
  have hn : s.ilen = 16 * (s.ilen / 16) := by omega
  have holen : s.decrypted.olen % 16 = 0 := by rw [decrypted_olen, hmod]
  have hhost : s.decrypted.host = [] := by
    rw [decrypted_frame]
    exact hh
  have hfatal : s.decrypted.fatal = false := by
    rw [decrypted_frame]
    exact hf
  have hstream := leads_streamLines ciphers_ciphD rfl (s := s.expandKey) hf hp rfl hn hle
  have hrun := run_kexp_leads (Line.command .frmD).ops hr hk hstream
  have hlast : step (s.decrypted.doneBefore (Line.command .frmD).ops) = exec .frmD s.decrypted :=
    (step_commandLine (ready_doneBefore hfatal _) rfl rfl).trans (exec_frmD_doneBefore hhost holen)
  obtain ⟨v, hv, -⟩ := exec_frmD_of_wholeBlocks holen
  rw [hv] at hlast
  rw [exec_runD_of_wholeBlocks hp hk hle hmod, hv, programOps_runDLines, List.length_append,
    List.length_append, ← Nat.add_assoc, Nat.add_comm (Line.command .kexp).ops.length]
  exact (run_add_of_run hrun 1).trans (run_succ_of_step hlast 0)

/-! ## The stream machine (R167) -/

/-- The phase of the block loop with `k` blocks to come. -/
def RunPhase.blocksLeft (k : Nat) : RunPhase := if 0 < k then .load else .fin

/-- R_PAD goes on to the blocks, or to R_FIN when there is none; so does R_KEXP in RUN.D. -/
theorem next_pad (dir : Direction) (n : Nat) : RunPhase.next dir n 0 .pad = some (.blocksLeft n, 0) := by
  unfold RunPhase.blocksLeft
  by_cases h : 0 < n
  · rw [if_pos h]
    exact if_pos h
  · rw [if_neg h]
    exact if_neg h

/-- R_STORE goes on to the blocks that are left. -/
theorem next_store (dir : Direction) (n b : Nat) :
    RunPhase.next dir n b .store = some (.blocksLeft (n - (b + 1)), b + 1) := by
  unfold RunPhase.blocksLeft
  by_cases h : b + 1 < n
  · rw [if_pos (Nat.sub_pos_of_lt h)]
    exact if_pos h
  · rw [if_neg (by omega)]
    exact if_neg h

/-- A phase with a successor performs its micro-operations, and then the successor. -/
theorem runTrace_of_next {dir : Direction} {ks : KeySize} {n b b' fuel : Nat} {ph ph' : RunPhase}
    (h : ph.next dir n b = some (ph', b')) :
    runTrace dir ks n (fuel + 1) ph b = ph.uops dir ks n b ++ runTrace dir ks n fuel ph' b' := by
  rw [runTrace, h]

/-- The block loop of the machine, with enough phases for its blocks, does the blocks of the list and goes on to R_FIN. -/
theorem runTrace_blocks (dir : Direction) (ks : KeySize) (n more : Nat) {k b : Nat} (h : b + k = n) :
    runTrace dir ks n (more + 3 * k) (.blocksLeft k) b =
      blockUops (RunPhase.uops dir ks n 0 .cipher) k b ++ runTrace dir ks n more .fin n := by
  induction k generalizing b with
  | zero =>
    obtain rfl : b = n := h
    rfl
  | succ k ih =>
    have hstore : RunPhase.next dir n b .store = some (.blocksLeft k, b + 1) := by
      rw [next_store, ← h, ← Nat.add_assoc, Nat.add_right_comm, Nat.add_sub_cancel_left]
    rw [Nat.mul_succ, ← Nat.add_assoc, RunPhase.blocksLeft, if_pos (Nat.succ_pos k),
      runTrace_of_next (ph := .load) rfl, runTrace_of_next (ph := .cipher) rfl, runTrace_of_next hstore, ih (by omega)]
    simp only [blockUops, List.flatten_cons, List.flatten_nil, List.append_nil, List.append_assoc]
    rfl

/-- RUN.E: pre-flight, key, padding, blocks, FIN. -/
theorem runTrace_encrypt (ks : KeySize) {n phases : Nat} (b : Nat) (h : 3 * n + 4 ≤ phases) :
    runTrace .encrypt ks n phases .pre b = runEUops ks n := by
  obtain ⟨more, rfl⟩ : ∃ more, phases = more + 1 + 3 * n + 3 := ⟨phases - (3 * n + 4), by omega⟩
  rw [runTrace_of_next (ph := .pre) rfl, runTrace_of_next (ph := .kexp) rfl, runTrace_of_next (next_pad .encrypt n),
    runTrace_blocks _ _ _ _ (Nat.zero_add n), runEUops]
  simp only [List.flatten_cons, List.flatten_nil, List.append_nil]
  rfl

/-- RUN.D: pre-flight, key, blocks, FIN, unpadding. -/
theorem runTrace_decrypt (ks : KeySize) {n phases : Nat} (b : Nat) (h : 3 * n + 4 ≤ phases) :
    runTrace .decrypt ks n phases .pre b = runDUops ks n := by
  obtain ⟨more, rfl⟩ : ∃ more, phases = more + 2 + 3 * n + 2 := ⟨phases - (3 * n + 4), by omega⟩
  have hkexp : RunPhase.next .decrypt n 0 .kexp = some (.blocksLeft n, 0) := next_pad .decrypt n
  rw [runTrace_of_next (ph := .pre) rfl, runTrace_of_next hkexp, runTrace_blocks _ _ _ _ (Nat.zero_add n), runDUops]
  simp only [List.flatten_cons, List.flatten_nil, List.append_nil]
  rfl

end Sys2Proof.Machine

open Sys2Proof Sys2Proof.Machine

/-- Settles O53: the lines do, one after another, what the parts of the commands do. -/
theorem runEqualsTheHostSequence : Obligations.RunEqualsTheHostSequence := by
  intro s n hr hh hp hlens hk
  obtain ⟨hilen, -⟩ := lengthsOk_iff.1 hlens
  refine ⟨fun hn hle => ?_, fun hn => ?_⟩
  · rw [← paddedLength_eq] at hn
    obtain rfl : n = s.paddedLength / 16 := by omega
    exact run_runELines hr hh hp hk (by omega) (hn ▸ hle)
  · obtain rfl : n = s.ilen / 16 := by omega
    exact run_runDLines hr hh hp hk (by omega) hilen

/-- Settles O56, phase by phase. -/
theorem streamMachineFollowsTheLists : Obligations.StreamMachineFollowsTheLists :=
  fun ks _ b _ h => ⟨runTrace_encrypt ks b h, runTrace_decrypt ks b h⟩
end

section
/-! PROOFS. How commands end outside of `done()`: acceptance, aborts and fatal entries (R181 to R188), and the statements O6, O13,
O28 and O29. -/

namespace Sys2Proof.Machine

/-! ## Acceptance (R185) -/

/-- The list of a command does not look at the host's list. -/
theorem uops_host (i : Instr) (s : State) (ops : List HostOp) : uops i { s with host := ops } = uops i s := by
  cases i <;> rfl

/-- A host that lets time pass lets a busy engine make one step (R25). -/
theorem step_pass_busy {s : State} {rest : List HostOp} (hb : s.busy = true) (hh : s.host = .pass :: rest) :
    step s = .next (engineStep { s with host := rest }) := by
  rw [step_cons hh, hostAct, State.engineTurn, if_pos (by exact hb)]

/-! ## The FATAL state (R28 (d), R187) -/

/-- `t` differs from `s` at most in the host's own list and answer. -/
def SameButHost (s t : State) : Prop := t = { s with host := t.host, rdata := t.rdata }

/-- A write in the FATAL state is ignored. -/
theorem hostWrite_of_fatal {s : State} (hb : s.busy = false) (hf : s.fatal = true) (go : State → State) :
    s.hostWrite go = s := by simp [State.hostWrite, hb, hf]

/-- A command line in the FATAL state is ignored, not even decoded. -/
theorem command_of_fatal {s : State} (hb : s.busy = false) (hf : s.fatal = true) (v : BitVec 32) :
    s.command v = .next s := by simp [State.command, hb, hf]

theorem engineTurn_of_idle {s : State} (hb : s.busy = false) : s.engineTurn = s := by simp [State.engineTurn, hb]

/-- A read of an idle engine writes the answer alone. -/
theorem hostRead_sameButHost {s : State} (hb : s.busy = false) (allowed : Bool) (v : BitVec 32) :
    SameButHost s (s.hostRead allowed v) := by
  rw [hostRead_of (.inl hb)]
  rfl

/-- No act of the host but reset does anything to an engine in the FATAL state. -/
theorem hostAct_of_fatal {s t : State} {op : HostOp} (hb : s.busy = false) (hf : s.fatal = true) (hop : op ≠ .reset)
    (ht : hostAct op s = .next t) : SameButHost s t := by
  cases op
  case reset => exact absurd rfl hop
  case cmd v =>
    cases (command_of_fatal hb hf v).symm.trans ht
    rfl
  case write32 win off v =>
    obtain ⟨-, -, rfl⟩ := access32_next ht
    rw [hostWrite_of_fatal hb hf]
    rfl
  case write8 win off v =>
    obtain ⟨-, -, rfl⟩ := access8_next ht
    rw [hostWrite_of_fatal hb hf]
    rfl
  case read32 win off =>
    obtain ⟨-, -, rfl⟩ := access32_next ht
    exact hostRead_sameButHost hb _ _
  case read8 win off =>
    obtain ⟨-, -, rfl⟩ := access8_next ht
    exact hostRead_sameButHost hb _ _
  case poll =>
    rw [hostAct, if_neg (by simp [hb])] at ht
    cases ht
    exact hostRead_sameButHost hb _ _
  case pass =>
    rw [hostAct, engineTurn_of_idle hb] at ht
    cases ht
    rfl

/-! ## Aborts (R181, R182, R184) -/

/-- Where the rest of a chain raises no error, an error of the chain is one of its first part. -/
theorem eq_error_of_andThen {e : Effect} {f : State → Effect} (hf : ∀ u, (f u).LegalEnd True False) {t : State}
    {bits : BitVec 4} (h : e.andThen f = .error t bits) : e = .error t bits := by
  cases e with
  | ok u =>
    have hend := hf u
    rw [← andThen_ok u f, h] at hend
    exact hend.1.elim
  | notice u => exact h
  | error u b => exact h
  | fatal u c => exact h

/-- `t` is `s` with KVALID as it was or cleared. -/
def MayClearKey (s t : State) : Prop := t = s ∨ t = { s with kvalid := false }

theorem keyCheckEffect_error {s t : State} {bits : BitVec 4} (h : keyCheckEffect s = .error t bits) :
    MayClearKey s t := by
  unfold keyCheckEffect at h
  split at h <;> cases h
  exact .inr rfl

theorem preflightE_error {s t : State} {bits : BitVec 4} (h : preflightE s = .error t bits) : MayClearKey s t := by
  unfold preflightE at h
  split at h
  · cases h
  · exact keyCheckEffect_error h

theorem preflightD_error {s t : State} {bits : BitVec 4} (h : preflightD s = .error t bits) : MayClearKey s t := by
  simp only [preflightD] at h
  split at h
  · cases h
  · split at h <;> cases h
    · exact .inl rfl
    · exact .inr rfl

/-- KEXP, RUN.E and RUN.D raise errors in their checks only, before they write anything but KVALID; no other command raises
one (R181, R182). -/
theorem commandEffect_error {i : Instr} {s t : State} {bits : BitVec 4} (h : commandEffect i s = .error t bits) :
    (i = .kexp ∨ i = .runE ∨ i = .runD) ∧ bits ≠ 0 ∧ MayClearKey s t := by
  have hend := commandEffect_legalEnd s i
  rw [h] at hend
  obtain ⟨hi, hbits⟩ := hend
  refine ⟨hi, ?_, ?_⟩
  · obtain rfl | rfl | rfl | rfl | rfl := hbits <;> decide
  · obtain rfl | rfl | rfl := hi
    · exact keyCheckEffect_error (eq_error_of_andThen (f := fun u => .ok u.expandKey) (fun _ => trivial) h)
    · refine preflightE_error (eq_error_of_andThen (fun _ => ?_) h)
      exact andThen_legalEnd (frmEEffect_legalEnd _) fun u =>
        andThen_legalEnd (runBlocks_legalEnd u ciphEEffect_legalEnd _ _) fun _ => trivial
    · refine preflightD_error (eq_error_of_andThen (fun t => ?_) h)
      exact andThen_legalEnd (runBlocks_legalEnd t.expandKey ciphDEffect_legalEnd _ _) fun _ =>
        frmDEffect_legalEnd _ trivial

/-! ## Fatal entries (R187, R188) -/

/-- The condition of R188 under which a command goes fatal with a cause. The first two causes are not a command's own. -/
def CommandCause (i : Instr) (s : State) : FatalCause → Prop
  | .illegalCommand => False
  | .busyAccess => False
  | .noKey => s.kvalid = false ∧ (i = .ciphE ∨ i = .ciphD ∨ ∃ r, i = .ark r)
  | .round => s.kvalid = true ∧ ∃ r, i = .ark r ∧ s.nr.toNat < r
  | .range => (i = .lds ∧ s.ilen < 16 * s.bidx.toNat + 16) ∨ (i = .sts ∧ s.params.bufcap < 16 * s.bidx.toNat + 16) ∨
      ((i = .frmE ∨ i = .runE) ∧ s.params.bufcap < s.ilen + padOf s.params.padAligned s.ilen)
  | .length => i = .frmD ∧ s.olen % 16 ≠ 0

/-- The command leaves FATAL alone, or goes fatal on the state before it, for a cause whose condition holds there. -/
def FatalOnlyByCause (i : Instr) (s : State) : Prop :=
  (∃ t, exec i s = .next t ∧ t.fatal = s.fatal) ∨ ∃ c, exec i s = .next (s.enterFatal c) ∧ CommandCause i s c

@[simp] theorem padInput_fatal (s : State) (pad : Nat) : (s.padInput pad).fatal = s.fatal := rfl

section Causes

variable (s : State)

theorem kexp_fatalOnlyByCause : FatalOnlyByCause .kexp s := by
  by_cases hk : s.klen.toNat = keyBytes s.ks
  · exact .inl ⟨_, exec_kexp_of_key hk, rfl⟩
  · exact .inl ⟨_, exec_kexp_of_badKey hk, rfl⟩

theorem lds_fatalOnlyByCause : FatalOnlyByCause .lds s := by
  obtain hlt | hle := Nat.lt_or_ge s.ilen (16 * s.bidx.toNat + 16)
  · exact .inr ⟨.range, exec_lds_of_lt hlt, .inl ⟨rfl, hlt⟩⟩
  · exact .inl ⟨_, exec_lds_of_le hle, rfl⟩

theorem sts_fatalOnlyByCause : FatalOnlyByCause .sts s := by
  obtain hlt | hle := Nat.lt_or_ge s.params.bufcap (16 * s.bidx.toNat + 16)
  · exact .inr ⟨.range, exec_sts_of_lt hlt, .inr (.inl ⟨rfl, hlt⟩)⟩
  · exact .inl ⟨_, exec_sts_of_le hle, (finish_fatal _ _).trans (memWrite_obuf_fatal s _ _)⟩

theorem transform_fatalOnlyByCause {i : Instr} {f : Block → Block} (h : commandEffect i = transformEffect f) :
    FatalOnlyByCause i s := .inl ⟨_, exec_of_transform h s, rfl⟩

theorem ark_fatalOnlyByCause (r : Nat) : FatalOnlyByCause (.ark r) s := by
  cases hk : s.kvalid with
  | false => exact .inr ⟨.noKey, exec_ark_of_noKey r hk, hk, .inr (.inr ⟨r, rfl⟩)⟩
  | true =>
    obtain hlt | hle := Nat.lt_or_ge s.nr.toNat r
    · exact .inr ⟨.round, exec_ark_of_lt hk hlt, hk, r, rfl, hlt⟩
    · exact .inl ⟨_, exec_ark_of_le hk hle, rfl⟩

theorem ciph_fatalOnlyByCause {i : Instr} {F : BlockCipher} (hc : Ciphers i F) (hi : i = .ciphE ∨ i = .ciphD) :
    FatalOnlyByCause i s := by
  cases hk : s.kvalid with
  | false => exact .inr ⟨.noKey, exec_ciph_of_noKey hi hk, hk, hi.imp_right .inl⟩
  | true =>
    have hexec := exec_eq i s
    rw [hc s hk] at hexec
    exact .inl ⟨_, hexec, rfl⟩

theorem frmE_fatalOnlyByCause : FatalOnlyByCause .frmE s := by
  obtain hlt | hle := Nat.lt_or_ge s.params.bufcap (s.ilen + padOf s.params.padAligned s.ilen)
  · exact .inr ⟨.range, exec_frmE_of_lt hlt, .inr (.inr ⟨.inl rfl, hlt⟩)⟩
  · exact .inl ⟨_, exec_frmE_of_le hle, (finish_fatal _ _).trans (padInput_fatal s _)⟩

theorem frmD_fatalOnlyByCause : FatalOnlyByCause .frmD s := by
  by_cases hlen : s.olen % 16 = 0
  · obtain ⟨olen, err, hexec, -⟩ := exec_frmD_eq hlen
    exact .inl ⟨_, hexec, rfl⟩
  · exact .inr ⟨.length, exec_frmD_of_partial hlen, rfl, hlen⟩

variable {s}

/-- RUN.E goes fatal in its pre-flight only: the blocks of an input that fits, padded, are inside the buffers (R161). -/
theorem runE_fatalOnlyByCause (hp : s.paramsOk = true) : FatalOnlyByCause .runE s := by
  obtain hlt | hle := Nat.lt_or_ge s.params.bufcap s.paddedLength
  · exact .inr ⟨.range, exec_runE_of_lt hlt, .inr (.inr ⟨.inr rfl, paddedLength_eq s ▸ hlt⟩)⟩
  · by_cases hk : s.klen.toNat = keyBytes s.ks
    · refine .inl ⟨_, exec_runE_of_le hp hk hle, ?_⟩
      rw [finish_fatal, encrypted_frame]
      rfl
    · exact .inl ⟨_, exec_runE_of_badKey hle hk, rfl⟩

/-- RUN.D never goes fatal: its blocks are inside the buffers, and it strips the padding of whole blocks (R162). -/
theorem runD_fatalOnlyByCause (hp : s.paramsOk = true) (hl : s.ilen ≤ s.params.bufcap) : FatalOnlyByCause .runD s := by
  by_cases hk : s.klen.toNat = keyBytes s.ks
  · by_cases hlen : s.ilen % 16 = 0
    · obtain ⟨olen, err, hexec, -⟩ := exec_frmD_eq (s := s.decrypted) (by rw [decrypted_olen, hlen])
      refine .inl ⟨_, (exec_runD_of_wholeBlocks hp hk hl hlen).trans hexec, ?_⟩
      rw [decrypted_frame]
      rfl
    · exact .inl ⟨_, exec_runD_of_partial hk hlen, rfl⟩
  · exact .inl ⟨_, exec_runD_of_badKey hk, rfl⟩

/-- Every command goes fatal for the causes of R188 only, on the state before it. -/
theorem fatalOnlyByCause (i : Instr) (hinv : s.Inv = true) : FatalOnlyByCause i s := by
  obtain ⟨⟨hp, hlens, -, -⟩, -, -⟩ := inv_iff.1 hinv
  obtain ⟨hl, -⟩ := lengthsOk_iff.1 hlens
  cases i
  case kexp => exact kexp_fatalOnlyByCause s
  case lds => exact lds_fatalOnlyByCause s
  case sts => exact sts_fatalOnlyByCause s
  case ark r => exact ark_fatalOnlyByCause s r
  case ciphE => exact ciph_fatalOnlyByCause s ciphers_ciphE (.inl rfl)
  case ciphD => exact ciph_fatalOnlyByCause s ciphers_ciphD (.inr rfl)
  case frmE => exact frmE_fatalOnlyByCause s
  case frmD => exact frmD_fatalOnlyByCause s
  case runE => exact runE_fatalOnlyByCause hp
  case runD => exact runD_fatalOnlyByCause hp hl
  all_goals exact transform_fatalOnlyByCause s rfl

end Causes

end Sys2Proof.Machine

open Sys2Proof Sys2Proof.Machine

/-- Settles O28: an effect that settles with DONE = 0 and FATAL = 0 is an error. -/
theorem abortsArePrecise : Obligations.AbortsArePrecise := by
  intro i s t _ ht hdone hfatal
  rw [exec_eq] at ht
  injection ht with ht
  subst ht
  cases he : commandEffect i s with
  | ok u =>
    rw [he] at hdone
    exact nomatch hdone
  | notice u =>
    rw [he] at hdone
    exact nomatch hdone
  | error u bits =>
    obtain ⟨hi, hbits, rfl | rfl⟩ := commandEffect_error he
    · exact ⟨hi, hbits, .inl rfl, rfl⟩
    · exact ⟨hi, hbits, .inr rfl, rfl⟩
  | fatal u c =>
    rw [he] at hfatal
    exact nomatch hfatal

/-- Settles O29: an engine that was not in the FATAL state and now is has gone there for a cause of the command. -/
theorem fatalFreezesTheStateBefore : Obligations.FatalFreezesTheStateBefore := by
  intro i s t hinv hf ht hfatal
  obtain ⟨t', ht', hkeep⟩ | ⟨c, ht', hcause⟩ := fatalOnlyByCause i hinv <;> cases ht'.symm.trans ht
  · exact absurd (hfatal.symm.trans (hkeep.trans hf)) nofun
  · refine ⟨rfl, ?_⟩
    cases c
    case illegalCommand => exact hcause.elim
    case busyAccess => exact hcause.elim
    case noKey => exact .inl ⟨rfl, hcause⟩
    case round => exact .inr (.inl ⟨rfl, hcause⟩)
    case range =>
      obtain h | h | h := hcause
      · exact .inr (.inr (.inl ⟨rfl, h⟩))
      · exact .inr (.inr (.inr (.inl ⟨rfl, h⟩)))
      · exact .inr (.inr (.inr (.inr (.inl ⟨rfl, h⟩))))
    case length => exact .inr (.inr (.inr (.inr (.inr ⟨rfl, hcause⟩))))

/-- Settles O13, by the host's next act; with none the idle engine does nothing. -/
theorem fatalIgnoresAllButReset : Obligations.FatalIgnoresAllButReset := by
  intro s t hf hb hreset ht
  cases hh : s.host with
  | nil =>
    rw [step_nil hh, engineTurn_of_idle hb] at ht
    cases ht
    rfl
  | cons op rest =>
    have hop : op ≠ .reset := fun e => hreset rest (e ▸ hh)
    rw [step_cons hh] at ht
    exact hostAct_of_fatal (s := { s with host := rest }) hb hf hop ht

/-- Settles O6: acceptance fixes the list, and a pass performs one entry of it. -/
theorem cmdWriteIsAccepted : Obligations.CmdWriteIsAccepted := by
  refine ⟨fun s v i rest hr hd hh => ?_, fun s rest hb hh => step_pass_busy hb hh⟩
  refine ⟨_, step_issue hr hh hd, rfl, rfl, ?_⟩
  rw [uops_host]
  rfl
end

section
/-! PROOFS. The reset event, the commands right after reset, and writes beside a stale schedule (R210, R211, R216): the
statements O8, O9 and O24. -/

namespace Sys2Proof.Machine

/-! ## The key schedule under writes of the host (R216) -/

/-- `t` has the key schedule of `s`: W, NR and KVALID. -/
def SameSchedule (s t : State) : Prop := t.w = s.w ∧ t.nr = s.nr ∧ t.kvalid = s.kvalid

theorem HostStores.sameSchedule {s t : State} (h : HostStores s t) : SameSchedule s t := by
  obtain ⟨e, -, -⟩ := h
  rw [e]
  exact ⟨rfl, rfl, rfl⟩

/-- No 32-bit write to the register block writes the schedule: one to CMD only accepts the command (R185). -/
theorem writeReg_sameSchedule (s : State) (off : Nat) (v : BitVec 32) : SameSchedule s (s.writeReg off v) := by
  obtain ⟨i, e⟩ | ⟨c, e⟩ | h := writeReg_cases s off v
  · rw [e]
    exact ⟨accept_w _ _ _, accept_nr _ _ _, accept_kvalid _ _ _⟩
  · rw [e]
    exact ⟨enterFatal_w _ _, enterFatal_nr _ _, enterFatal_kvalid _ _⟩
  · exact h.sameSchedule

/-- A write keeps the schedule when its effect on a ready engine does: FC_BUSY keeps it too. -/
theorem hostWrite_sameSchedule {s : State} {go : State → State} (h : SameSchedule s (go s)) :
    SameSchedule s (s.hostWrite go) := by
  obtain ⟨-, e⟩ | ⟨-, -, e⟩ | ⟨-, -, e⟩ := hostWrite_cases s go <;> rw [e]
  · exact ⟨enterFatal_w _ _, enterFatal_nr _ _, enterFatal_kvalid _ _⟩
  · exact ⟨rfl, rfl, rfl⟩
  · exact h

/-! ## The reset event (R210) -/

/-- A reset act is taken in every state, in one step. -/
theorem step_reset {s : State} {rest : List HostOp} (hh : s.host = .reset :: rest) :
    step s = .next (State.resetEvent { s with host := rest }) := step_cons hh

/-- The values the reset event writes are those of the state after reset. -/
theorem resetEvent_eq (s : State) : s.resetEvent =
    { State.reset with params := s.params, epoch := s.epoch + 1, host := s.host, rdata := s.rdata } := rfl

/-- After the reset event a buffer holds no written byte: every read is a draw of the new epoch (U1). -/
theorem readBuffer_resetEvent (s : State) (b : Buffer) (a : Nat) :
    s.resetEvent.readBuffer b a = Config.unwrittenByte b (s.epoch + 1) a := by
  cases b <;> rfl

/-! ## Padding of the empty output (R145) -/

/-- An empty string has no padding: at least one byte is needed. -/
theorem not_paddedBy_zero (f : Nat → Byte) (p : Nat) : ¬ PaddedBy f 0 p :=
  fun ⟨hpos, _, hlen, _⟩ => Nat.not_le.2 hpos hlen

end Sys2Proof.Machine

open Sys2Proof Sys2Proof.Machine

/-- Settles O24: the writes are writes to the register block, and those keep the schedule. -/
theorem keyWritesLeaveTheScheduleStale : Obligations.KeyWritesLeaveTheScheduleStale := by
  intro s t off rest _ _ hh ht
  obtain ⟨v, hh⟩ | ⟨v, hh⟩ := hh <;> rw [step_cons hh] at ht
  · obtain ⟨-, -, rfl⟩ := access32_next ht
    exact hostWrite_sameSchedule (s := { s with host := rest }) (writeReg_sameSchedule _ off v)
  · obtain ⟨-, -, rfl⟩ := access8_next ht
    exact hostWrite_sameSchedule (s := { s with host := rest }) (writeRegByte_stores _ off v).sameSchedule

/-- Settles O8: the reset event is taken whatever the state. -/
theorem resetEventClearsEverything : Obligations.ResetEventClearsEverything :=
  fun s rest hh => ⟨_, step_reset hh, resetEvent_eq { s with host := rest },
    readBuffer_resetEvent { s with host := rest }⟩

/-- Settles O9: after reset KLEN is 0, no schedule is valid, input and output are empty, and block 0 fits in OBUF. -/
theorem commandsRightAfterReset : Obligations.CommandsRightAfterReset := by
  refine ⟨?kexp, fun r => ?ark, ?ciphE, ?ciphD, ?lds, ?frmE, ?frmD, ?sts⟩
  case kexp => exact exec_kexp_of_badKey (by decide)
  case ark => exact exec_ark_of_noKey r rfl
  case ciphE => exact exec_ciph_of_noKey (.inl rfl) rfl
  case ciphD => exact exec_ciph_of_noKey (.inr rfl) rfl
  case lds => exact exec_lds_of_lt (by decide)
  case frmE => exact exec_frmE_of_le (by decide)
  case frmD => exact exec_frmD_of_unpadded rfl (not_paddedBy_zero _)
  case sts => exact exec_sts_of_le (by decide)
end
